-- ==== Sys2Proof/Word.lean ====
section
/-! DEFINITION. The Word and byte types (00_scope.md R8, 41_alu.md R130) and the construction of a Word from a natural. -/

namespace Sys2Proof

/-- A byte: 8 bits, unsigned (R8). -/
abbrev Byte := BitVec 8

/-- A Word: 256 bits, unsigned. `BitVec.toNat` is the value view `val` of R8; the byte view is `Machine.auBytes32`. -/
abbrev Word := BitVec 256

/-- A 32-bit unsigned machine integer, the type of a shift amount (41_alu.md R144). -/
abbrev U32 := BitVec 32

/-- `W(n)` of R9: the Word whose value is `n mod 2^256`. -/
abbrev W (n : Nat) : Word := BitVec.ofNat 256 n

end Sys2Proof
end

