-- ==== Sys2Proof/Config.lean ====
section
/-! DEFINITION. What is fixed for a run: the constants of 00_scope.md R6, the parameters of R7, and the free values. A free
value has no body: no proof can see what it is, so a claim about it holds whatever it is. -/

namespace Sys2Proof

/-- `WORD_BYTES` (R6). -/
abbrev wordBytes : Nat := 32

/-- `MEM_GRANULE` (R6): data memory grows in units of this many bytes. -/
abbrev memGranule : Nat := 32

/-- `MACHINE_INT_BITS` (R6): the width of the checked conversion `toU32`. -/
abbrev machineIntBits : Nat := 32

/-- `MAX_TOPICS` (R6). -/
abbrev maxTopics : Nat := 4

/-- `JUMPDEST_BYTE` (R6): the jump marker. -/
abbrev jumpdestByte : Byte := 0x5b#8

/-- The parameters of a run that are plain data (R7), each an argument of the model: held in the state and written by no
step, so that a statement about every state is a statement about every setting (log entry 4). -/
structure Params where
  /-- `MODARITH_WIDE` (D5): ADDMOD and MULMOD form the sum or product exactly (true) or modulo 2^256 (false). -/
  modarithWide : Bool
  /-- `ZERO_SIZE_EXPANDS` (D10): an access of size 0 at `o` still expands memory to cover `o` bytes. -/
  zeroSizeExpands : Bool
  /-- `CODE_MAX_LEN` (D11, D12): the greatest code length `construct` accepts. -/
  codeMaxLen : Nat
  /-- `MEM_CAPACITY` (D11): the greatest memory length a physical build holds, or none. -/
  memCapacity : Option Nat
  /-- `STACK_CAPACITY` (D11): the greatest stack depth a physical build holds, or none. -/
  stackCapacity : Option Nat
deriving DecidableEq, Repr

/-- The defaults of R7's table. -/
def Params.default : Params :=
  { modarithWide := false, zeroSizeExpands := true, codeMaxLen := 2 ^ 32 - 1, memCapacity := none, stackCapacity := none }

/-- A storage fetch request at the DataSource port: `(address, index, height)` (10_state.md R46). -/
structure FetchRequest where
  address : Word
  index : Word
  height : Word
deriving DecidableEq, Repr

/-- What the DataSource does with a request (R46, R496): answer a Word, fail, or never answer. -/
inductive FetchAnswer where
  | found (value : Word)
  | failure
  | noAnswer
deriving DecidableEq, Repr, Inhabited

/-- FREE VALUE (log entry 7): `HASH`, a total function of the byte sequence alone (R50). -/
opaque Config.hash : List Byte → Word

/-- FREE VALUE (log entry 8): the DataSource's answer to the request drawn at a position of the free-value counter; a fresh
one at every miss (R46, R263, 93_implementation_defined.md I2). -/
opaque Config.fetchStorage : Nat → FetchRequest → FetchAnswer

/-! FREE VALUES (log entry 1): what each component holds after a fault, at a position of the free-value counter
(40_dispatch.md R116, 93_implementation_defined.md I1: "each component may hold anything"). -/

/-- `pc` after a fault. -/
opaque Config.faultPc : Nat → Nat
/-- The stack after a fault. -/
opaque Config.faultStack : Nat → List Word
/-- The bytes of data memory after a fault, of any length. -/
opaque Config.faultMem : Nat → List Byte
/-- The pairs of the storage cache after a fault. -/
opaque Config.faultStorage : Nat → List (Word × Word)
/-- The records of the log sink after a fault, as pairs of topics and data. -/
opaque Config.faultLogs : Nat → List (List Word × List Byte)
/-- The flag `reverted` after a fault. -/
opaque Config.faultReverted : Nat → Bool
/-- The flag `selfdestructed` after a fault. -/
opaque Config.faultSelfdestructed : Nat → Bool
/-- The return data register after a fault. -/
opaque Config.faultReturndata : Nat → List Byte

end Sys2Proof
end

