-- ==== Sys2Proof/Syntax.lean ====
section
/-! DEFINITION. The instructions: one constructor per row of spec/opcode_table.json, in byte order (30_encoding.md R95).
PUSHn carries its immediate, the `n` bytes after the opcode, lowest address first (R90, R93); no other instruction has an
operand field (R94). -/

namespace Sys2Proof

/-- One constructor per opcode byte. `unassignedXX` is the byte value 0xXX to which no instruction is assigned (R413). -/
inductive Instr where
  -- 0x00 to 0x0f
  | stop | add | mul | sub | div | sdiv | mod | smod | addmod | mulmod | exp | signextend | unassigned0C
  | unassigned0D | unassigned0E | unassigned0F
  -- 0x10 to 0x1f
  | lt | gt | slt | sgt | eq | iszero | and | or | xor | not | byte | shl | shr | sar | unassigned1E
  | unassigned1F
  -- 0x20 to 0x2f
  | sha3 | unassigned21 | unassigned22 | unassigned23 | unassigned24 | unassigned25 | unassigned26
  | unassigned27 | unassigned28 | unassigned29 | unassigned2A | unassigned2B | unassigned2C | unassigned2D
  | unassigned2E | unassigned2F
  -- 0x30 to 0x3f
  | address | balance | origin | caller | callvalue | calldataload | calldatasize | calldatacopy | codesize
  | codecopy | gasprice | extcodesize | extcodecopy | returndatasize | returndatacopy | extcodehash
  -- 0x40 to 0x4f
  | blockhash | coinbase | timestamp | number | difficulty | gaslimit | unassigned46 | unassigned47
  | unassigned48 | unassigned49 | unassigned4A | unassigned4B | unassigned4C | unassigned4D | unassigned4E
  | unassigned4F
  -- 0x50 to 0x5f
  | pop | mload | mstore | mstore8 | sload | sstore | jump | jumpi | pc | msize | gas | jumpdest
  | unassigned5C | unassigned5D | unassigned5E | unassigned5F
  -- 0x60 to 0x6f
  | push1 (imm : List Byte) | push2 (imm : List Byte) | push3 (imm : List Byte) | push4 (imm : List Byte)
  | push5 (imm : List Byte) | push6 (imm : List Byte) | push7 (imm : List Byte) | push8 (imm : List Byte)
  | push9 (imm : List Byte) | push10 (imm : List Byte) | push11 (imm : List Byte) | push12 (imm : List Byte)
  | push13 (imm : List Byte) | push14 (imm : List Byte) | push15 (imm : List Byte) | push16 (imm : List Byte)
  -- 0x70 to 0x7f
  | push17 (imm : List Byte) | push18 (imm : List Byte) | push19 (imm : List Byte) | push20 (imm : List Byte)
  | push21 (imm : List Byte) | push22 (imm : List Byte) | push23 (imm : List Byte) | push24 (imm : List Byte)
  | push25 (imm : List Byte) | push26 (imm : List Byte) | push27 (imm : List Byte) | push28 (imm : List Byte)
  | push29 (imm : List Byte) | push30 (imm : List Byte) | push31 (imm : List Byte) | push32 (imm : List Byte)
  -- 0x80 to 0x8f
  | dup1 | dup2 | dup3 | dup4 | dup5 | dup6 | dup7 | dup8 | dup9 | dup10 | dup11 | dup12 | dup13 | dup14
  | dup15 | dup16
  -- 0x90 to 0x9f
  | swap1 | swap2 | swap3 | swap4 | swap5 | swap6 | swap7 | swap8 | swap9 | swap10 | swap11 | swap12 | swap13
  | swap14 | swap15 | swap16
  -- 0xa0 to 0xaf
  | log0 | log1 | log2 | log3 | log4 | unassignedA5 | unassignedA6 | unassignedA7 | unassignedA8
  | unassignedA9 | unassignedAA | unassignedAB | unassignedAC | unassignedAD | unassignedAE | unassignedAF
  -- 0xb0 to 0xbf
  | unassignedB0 | unassignedB1 | unassignedB2 | unassignedB3 | unassignedB4 | unassignedB5 | unassignedB6
  | unassignedB7 | unassignedB8 | unassignedB9 | unassignedBA | unassignedBB | unassignedBC | unassignedBD
  | unassignedBE | unassignedBF
  -- 0xc0 to 0xcf
  | unassignedC0 | unassignedC1 | unassignedC2 | unassignedC3 | unassignedC4 | unassignedC5 | unassignedC6
  | unassignedC7 | unassignedC8 | unassignedC9 | unassignedCA | unassignedCB | unassignedCC | unassignedCD
  | unassignedCE | unassignedCF
  -- 0xd0 to 0xdf
  | unassignedD0 | unassignedD1 | unassignedD2 | unassignedD3 | unassignedD4 | unassignedD5 | unassignedD6
  | unassignedD7 | unassignedD8 | unassignedD9 | unassignedDA | unassignedDB | unassignedDC | unassignedDD
  | unassignedDE | unassignedDF
  -- 0xe0 to 0xef
  | unassignedE0 | unassignedE1 | unassignedE2 | unassignedE3 | unassignedE4 | unassignedE5 | unassignedE6
  | unassignedE7 | unassignedE8 | unassignedE9 | unassignedEA | unassignedEB | unassignedEC | unassignedED
  | unassignedEE | unassignedEF
  -- 0xf0 to 0xff
  | create | call | callcode | ret | delegatecall | create2 | unassignedF6 | unassignedF7 | unassignedF8
  | unassignedF9 | staticcall | unassignedFB | unassignedFC | revert | invalid | suicide
deriving DecidableEq, Repr

/-- The immediate bytes an instruction carries; none for format OP (R90). -/
def Instr.immediate : Instr → List Byte
  | .push1 b | .push2 b | .push3 b | .push4 b | .push5 b | .push6 b | .push7 b | .push8 b | .push9 b
  | .push10 b | .push11 b | .push12 b | .push13 b | .push14 b | .push15 b | .push16 b | .push17 b | .push18 b
  | .push19 b | .push20 b | .push21 b | .push22 b | .push23 b | .push24 b | .push25 b | .push26 b | .push27 b
  | .push28 b | .push29 b | .push30 b | .push31 b | .push32 b => b
  | .stop | .add | .mul | .sub | .div | .sdiv | .mod | .smod | .addmod | .mulmod | .exp | .signextend
  | .unassigned0C | .unassigned0D | .unassigned0E | .unassigned0F | .lt | .gt | .slt | .sgt | .eq | .iszero
  | .and | .or | .xor | .not | .byte | .shl | .shr | .sar | .unassigned1E | .unassigned1F | .sha3
  | .unassigned21 | .unassigned22 | .unassigned23 | .unassigned24 | .unassigned25 | .unassigned26
  | .unassigned27 | .unassigned28 | .unassigned29 | .unassigned2A | .unassigned2B | .unassigned2C
  | .unassigned2D | .unassigned2E | .unassigned2F | .address | .balance | .origin | .caller | .callvalue
  | .calldataload | .calldatasize | .calldatacopy | .codesize | .codecopy | .gasprice | .extcodesize
  | .extcodecopy | .returndatasize | .returndatacopy | .extcodehash | .blockhash | .coinbase | .timestamp
  | .number | .difficulty | .gaslimit | .unassigned46 | .unassigned47 | .unassigned48 | .unassigned49
  | .unassigned4A | .unassigned4B | .unassigned4C | .unassigned4D | .unassigned4E | .unassigned4F | .pop
  | .mload | .mstore | .mstore8 | .sload | .sstore | .jump | .jumpi | .pc | .msize | .gas | .jumpdest
  | .unassigned5C | .unassigned5D | .unassigned5E | .unassigned5F | .dup1 | .dup2 | .dup3 | .dup4 | .dup5
  | .dup6 | .dup7 | .dup8 | .dup9 | .dup10 | .dup11 | .dup12 | .dup13 | .dup14 | .dup15 | .dup16 | .swap1
  | .swap2 | .swap3 | .swap4 | .swap5 | .swap6 | .swap7 | .swap8 | .swap9 | .swap10 | .swap11 | .swap12
  | .swap13 | .swap14 | .swap15 | .swap16 | .log0 | .log1 | .log2 | .log3 | .log4 | .unassignedA5
  | .unassignedA6 | .unassignedA7 | .unassignedA8 | .unassignedA9 | .unassignedAA | .unassignedAB
  | .unassignedAC | .unassignedAD | .unassignedAE | .unassignedAF | .unassignedB0 | .unassignedB1
  | .unassignedB2 | .unassignedB3 | .unassignedB4 | .unassignedB5 | .unassignedB6 | .unassignedB7
  | .unassignedB8 | .unassignedB9 | .unassignedBA | .unassignedBB | .unassignedBC | .unassignedBD
  | .unassignedBE | .unassignedBF | .unassignedC0 | .unassignedC1 | .unassignedC2 | .unassignedC3
  | .unassignedC4 | .unassignedC5 | .unassignedC6 | .unassignedC7 | .unassignedC8 | .unassignedC9
  | .unassignedCA | .unassignedCB | .unassignedCC | .unassignedCD | .unassignedCE | .unassignedCF
  | .unassignedD0 | .unassignedD1 | .unassignedD2 | .unassignedD3 | .unassignedD4 | .unassignedD5
  | .unassignedD6 | .unassignedD7 | .unassignedD8 | .unassignedD9 | .unassignedDA | .unassignedDB
  | .unassignedDC | .unassignedDD | .unassignedDE | .unassignedDF | .unassignedE0 | .unassignedE1
  | .unassignedE2 | .unassignedE3 | .unassignedE4 | .unassignedE5 | .unassignedE6 | .unassignedE7
  | .unassignedE8 | .unassignedE9 | .unassignedEA | .unassignedEB | .unassignedEC | .unassignedED
  | .unassignedEE | .unassignedEF | .create | .call | .callcode | .ret | .delegatecall | .create2
  | .unassignedF6 | .unassignedF7 | .unassignedF8 | .unassignedF9 | .staticcall | .unassignedFB
  | .unassignedFC | .revert | .invalid | .suicide => []

/-- How many immediate bytes the instruction has in the code: `n` for PUSHn, 0 otherwise (R90, R91). -/
def Instr.immediateBytes : Instr → Nat
  | .push1 _ => 1
  | .push2 _ => 2
  | .push3 _ => 3
  | .push4 _ => 4
  | .push5 _ => 5
  | .push6 _ => 6
  | .push7 _ => 7
  | .push8 _ => 8
  | .push9 _ => 9
  | .push10 _ => 10
  | .push11 _ => 11
  | .push12 _ => 12
  | .push13 _ => 13
  | .push14 _ => 14
  | .push15 _ => 15
  | .push16 _ => 16
  | .push17 _ => 17
  | .push18 _ => 18
  | .push19 _ => 19
  | .push20 _ => 20
  | .push21 _ => 21
  | .push22 _ => 22
  | .push23 _ => 23
  | .push24 _ => 24
  | .push25 _ => 25
  | .push26 _ => 26
  | .push27 _ => 27
  | .push28 _ => 28
  | .push29 _ => 29
  | .push30 _ => 30
  | .push31 _ => 31
  | .push32 _ => 32
  | .stop | .add | .mul | .sub | .div | .sdiv | .mod | .smod | .addmod | .mulmod | .exp | .signextend
  | .unassigned0C | .unassigned0D | .unassigned0E | .unassigned0F | .lt | .gt | .slt | .sgt | .eq | .iszero
  | .and | .or | .xor | .not | .byte | .shl | .shr | .sar | .unassigned1E | .unassigned1F | .sha3
  | .unassigned21 | .unassigned22 | .unassigned23 | .unassigned24 | .unassigned25 | .unassigned26
  | .unassigned27 | .unassigned28 | .unassigned29 | .unassigned2A | .unassigned2B | .unassigned2C
  | .unassigned2D | .unassigned2E | .unassigned2F | .address | .balance | .origin | .caller | .callvalue
  | .calldataload | .calldatasize | .calldatacopy | .codesize | .codecopy | .gasprice | .extcodesize
  | .extcodecopy | .returndatasize | .returndatacopy | .extcodehash | .blockhash | .coinbase | .timestamp
  | .number | .difficulty | .gaslimit | .unassigned46 | .unassigned47 | .unassigned48 | .unassigned49
  | .unassigned4A | .unassigned4B | .unassigned4C | .unassigned4D | .unassigned4E | .unassigned4F | .pop
  | .mload | .mstore | .mstore8 | .sload | .sstore | .jump | .jumpi | .pc | .msize | .gas | .jumpdest
  | .unassigned5C | .unassigned5D | .unassigned5E | .unassigned5F | .dup1 | .dup2 | .dup3 | .dup4 | .dup5
  | .dup6 | .dup7 | .dup8 | .dup9 | .dup10 | .dup11 | .dup12 | .dup13 | .dup14 | .dup15 | .dup16 | .swap1
  | .swap2 | .swap3 | .swap4 | .swap5 | .swap6 | .swap7 | .swap8 | .swap9 | .swap10 | .swap11 | .swap12
  | .swap13 | .swap14 | .swap15 | .swap16 | .log0 | .log1 | .log2 | .log3 | .log4 | .unassignedA5
  | .unassignedA6 | .unassignedA7 | .unassignedA8 | .unassignedA9 | .unassignedAA | .unassignedAB
  | .unassignedAC | .unassignedAD | .unassignedAE | .unassignedAF | .unassignedB0 | .unassignedB1
  | .unassignedB2 | .unassignedB3 | .unassignedB4 | .unassignedB5 | .unassignedB6 | .unassignedB7
  | .unassignedB8 | .unassignedB9 | .unassignedBA | .unassignedBB | .unassignedBC | .unassignedBD
  | .unassignedBE | .unassignedBF | .unassignedC0 | .unassignedC1 | .unassignedC2 | .unassignedC3
  | .unassignedC4 | .unassignedC5 | .unassignedC6 | .unassignedC7 | .unassignedC8 | .unassignedC9
  | .unassignedCA | .unassignedCB | .unassignedCC | .unassignedCD | .unassignedCE | .unassignedCF
  | .unassignedD0 | .unassignedD1 | .unassignedD2 | .unassignedD3 | .unassignedD4 | .unassignedD5
  | .unassignedD6 | .unassignedD7 | .unassignedD8 | .unassignedD9 | .unassignedDA | .unassignedDB
  | .unassignedDC | .unassignedDD | .unassignedDE | .unassignedDF | .unassignedE0 | .unassignedE1
  | .unassignedE2 | .unassignedE3 | .unassignedE4 | .unassignedE5 | .unassignedE6 | .unassignedE7
  | .unassignedE8 | .unassignedE9 | .unassignedEA | .unassignedEB | .unassignedEC | .unassignedED
  | .unassignedEE | .unassignedEF | .create | .call | .callcode | .ret | .delegatecall | .create2
  | .unassignedF6 | .unassignedF7 | .unassignedF8 | .unassignedF9 | .staticcall | .unassignedFB
  | .unassignedFC | .revert | .invalid | .suicide => 0

/-- The instructions that execute; the other 148 raise `UnsupportedInstruction` (R95, R97; `executes` of the table). -/
def Instr.executes : Instr → Bool
  | .push1 _ | .push2 _ | .push3 _ | .push4 _ | .push5 _ | .push6 _ | .push7 _ | .push8 _ | .push9 _
  | .push10 _ | .push11 _ | .push12 _ | .push13 _ | .push14 _ | .push15 _ | .push16 _ | .push17 _ | .push18 _
  | .push19 _ | .push20 _ | .push21 _ | .push22 _ | .push23 _ | .push24 _ | .push25 _ | .push26 _ | .push27 _
  | .push28 _ | .push29 _ | .push30 _ | .push31 _ | .push32 _ => true
  | .stop | .add | .mul | .sub | .div | .mod | .addmod | .mulmod | .exp | .lt | .gt | .eq | .iszero | .and
  | .or | .xor | .not | .sha3 | .address | .origin | .caller | .callvalue | .calldataload | .calldatasize
  | .codecopy | .pop | .mload | .mstore | .mstore8 | .sload | .sstore | .jump | .jumpi | .pc | .msize
  | .jumpdest | .dup1 | .dup2 | .dup3 | .dup4 | .dup5 | .dup6 | .dup7 | .dup8 | .dup9 | .dup10 | .dup11
  | .dup12 | .dup13 | .dup14 | .dup15 | .dup16 | .swap1 | .swap2 | .swap3 | .swap4 | .swap5 | .swap6 | .swap7
  | .swap8 | .swap9 | .swap10 | .swap11 | .swap12 | .swap13 | .swap14 | .swap15 | .swap16 | .log0 | .log1
  | .log2 | .log3 | .log4 | .ret | .revert | .suicide => true
  | .sdiv | .smod | .signextend | .unassigned0C | .unassigned0D | .unassigned0E | .unassigned0F | .slt | .sgt
  | .byte | .shl | .shr | .sar | .unassigned1E | .unassigned1F | .unassigned21 | .unassigned22
  | .unassigned23 | .unassigned24 | .unassigned25 | .unassigned26 | .unassigned27 | .unassigned28
  | .unassigned29 | .unassigned2A | .unassigned2B | .unassigned2C | .unassigned2D | .unassigned2E
  | .unassigned2F | .balance | .calldatacopy | .codesize | .gasprice | .extcodesize | .extcodecopy
  | .returndatasize | .returndatacopy | .extcodehash | .blockhash | .coinbase | .timestamp | .number
  | .difficulty | .gaslimit | .unassigned46 | .unassigned47 | .unassigned48 | .unassigned49 | .unassigned4A
  | .unassigned4B | .unassigned4C | .unassigned4D | .unassigned4E | .unassigned4F | .gas | .unassigned5C
  | .unassigned5D | .unassigned5E | .unassigned5F | .unassignedA5 | .unassignedA6 | .unassignedA7
  | .unassignedA8 | .unassignedA9 | .unassignedAA | .unassignedAB | .unassignedAC | .unassignedAD
  | .unassignedAE | .unassignedAF | .unassignedB0 | .unassignedB1 | .unassignedB2 | .unassignedB3
  | .unassignedB4 | .unassignedB5 | .unassignedB6 | .unassignedB7 | .unassignedB8 | .unassignedB9
  | .unassignedBA | .unassignedBB | .unassignedBC | .unassignedBD | .unassignedBE | .unassignedBF
  | .unassignedC0 | .unassignedC1 | .unassignedC2 | .unassignedC3 | .unassignedC4 | .unassignedC5
  | .unassignedC6 | .unassignedC7 | .unassignedC8 | .unassignedC9 | .unassignedCA | .unassignedCB
  | .unassignedCC | .unassignedCD | .unassignedCE | .unassignedCF | .unassignedD0 | .unassignedD1
  | .unassignedD2 | .unassignedD3 | .unassignedD4 | .unassignedD5 | .unassignedD6 | .unassignedD7
  | .unassignedD8 | .unassignedD9 | .unassignedDA | .unassignedDB | .unassignedDC | .unassignedDD
  | .unassignedDE | .unassignedDF | .unassignedE0 | .unassignedE1 | .unassignedE2 | .unassignedE3
  | .unassignedE4 | .unassignedE5 | .unassignedE6 | .unassignedE7 | .unassignedE8 | .unassignedE9
  | .unassignedEA | .unassignedEB | .unassignedEC | .unassignedED | .unassignedEE | .unassignedEF | .create
  | .call | .callcode | .delegatecall | .create2 | .unassignedF6 | .unassignedF7 | .unassignedF8
  | .unassignedF9 | .staticcall | .unassignedFB | .unassignedFC | .invalid => false

end Sys2Proof
end

