-- ==== Sys2Proof/WellFormed.lean ====
section
/-! DEFINITION. When an instruction term is one the encoding can spell: PUSHn carries exactly `n` immediate bytes
(30_encoding.md R90, R91, R100). Every other term is well-formed. -/

namespace Sys2Proof

/-- The one check: as many immediate bytes as the opcode says. A PUSH whose immediate runs past the end of the code decodes
to a term with fewer (R99); executing it faults (48_stack.md R301). -/
abbrev Instr.WellFormed (i : Instr) : Prop := i.immediate.length = i.immediateBytes

/-- `L(op)` of R91 at an instruction: its length in bytes. -/
def Instr.length (i : Instr) : Nat := 1 + i.immediateBytes

end Sys2Proof
end

