-- ==== Sys2Proof/Decode.lean ====
section
/-! DEFINITION. The decoder and the encoder, both from the opcode map (30_encoding.md R90, R91, R93, R95). The decoder is total:
every byte value selects an instruction (R95, R112), and the one thing it rejects, by name, is an empty byte sequence. -/

namespace Sys2Proof

/-- Why decoding answers no instruction. -/
inductive DecodeError where
  /-- There is no opcode byte: fetch raises `NoMoreInstructions` (40_dispatch.md R111). -/
  | noOpcode
deriving DecidableEq, Repr

/-- One cell of the opcode map: an instruction of format OP, or one of format PUSH with its immediate's length. -/
inductive OpcodeCell where
  | op (i : Instr)
  | push (n : Nat) (mk : List Byte → Instr)

/-- Row 0 of the map of R95: opcode bytes 0x00 to 0x0f. -/
def opcodeRow0 : List OpcodeCell :=
  [.op .stop, .op .add, .op .mul, .op .sub,
   .op .div, .op .sdiv, .op .mod, .op .smod,
   .op .addmod, .op .mulmod, .op .exp, .op .signextend,
   .op .unassigned0C, .op .unassigned0D, .op .unassigned0E, .op .unassigned0F]

/-- Row 1 of the map of R95: opcode bytes 0x10 to 0x1f. -/
def opcodeRow1 : List OpcodeCell :=
  [.op .lt, .op .gt, .op .slt, .op .sgt,
   .op .eq, .op .iszero, .op .and, .op .or,
   .op .xor, .op .not, .op .byte, .op .shl,
   .op .shr, .op .sar, .op .unassigned1E, .op .unassigned1F]

/-- Row 2 of the map of R95: opcode bytes 0x20 to 0x2f. -/
def opcodeRow2 : List OpcodeCell :=
  [.op .sha3, .op .unassigned21, .op .unassigned22, .op .unassigned23,
   .op .unassigned24, .op .unassigned25, .op .unassigned26, .op .unassigned27,
   .op .unassigned28, .op .unassigned29, .op .unassigned2A, .op .unassigned2B,
   .op .unassigned2C, .op .unassigned2D, .op .unassigned2E, .op .unassigned2F]

/-- Row 3 of the map of R95: opcode bytes 0x30 to 0x3f. -/
def opcodeRow3 : List OpcodeCell :=
  [.op .address, .op .balance, .op .origin, .op .caller,
   .op .callvalue, .op .calldataload, .op .calldatasize, .op .calldatacopy,
   .op .codesize, .op .codecopy, .op .gasprice, .op .extcodesize,
   .op .extcodecopy, .op .returndatasize, .op .returndatacopy, .op .extcodehash]

/-- Row 4 of the map of R95: opcode bytes 0x40 to 0x4f. -/
def opcodeRow4 : List OpcodeCell :=
  [.op .blockhash, .op .coinbase, .op .timestamp, .op .number,
   .op .difficulty, .op .gaslimit, .op .unassigned46, .op .unassigned47,
   .op .unassigned48, .op .unassigned49, .op .unassigned4A, .op .unassigned4B,
   .op .unassigned4C, .op .unassigned4D, .op .unassigned4E, .op .unassigned4F]

/-- Row 5 of the map of R95: opcode bytes 0x50 to 0x5f. -/
def opcodeRow5 : List OpcodeCell :=
  [.op .pop, .op .mload, .op .mstore, .op .mstore8,
   .op .sload, .op .sstore, .op .jump, .op .jumpi,
   .op .pc, .op .msize, .op .gas, .op .jumpdest,
   .op .unassigned5C, .op .unassigned5D, .op .unassigned5E, .op .unassigned5F]

/-- Row 6 of the map of R95: opcode bytes 0x60 to 0x6f. -/
def opcodeRow6 : List OpcodeCell :=
  [.push 1 .push1, .push 2 .push2, .push 3 .push3, .push 4 .push4,
   .push 5 .push5, .push 6 .push6, .push 7 .push7, .push 8 .push8,
   .push 9 .push9, .push 10 .push10, .push 11 .push11, .push 12 .push12,
   .push 13 .push13, .push 14 .push14, .push 15 .push15, .push 16 .push16]

/-- Row 7 of the map of R95: opcode bytes 0x70 to 0x7f. -/
def opcodeRow7 : List OpcodeCell :=
  [.push 17 .push17, .push 18 .push18, .push 19 .push19, .push 20 .push20,
   .push 21 .push21, .push 22 .push22, .push 23 .push23, .push 24 .push24,
   .push 25 .push25, .push 26 .push26, .push 27 .push27, .push 28 .push28,
   .push 29 .push29, .push 30 .push30, .push 31 .push31, .push 32 .push32]

/-- Row 8 of the map of R95: opcode bytes 0x80 to 0x8f. -/
def opcodeRow8 : List OpcodeCell :=
  [.op .dup1, .op .dup2, .op .dup3, .op .dup4,
   .op .dup5, .op .dup6, .op .dup7, .op .dup8,
   .op .dup9, .op .dup10, .op .dup11, .op .dup12,
   .op .dup13, .op .dup14, .op .dup15, .op .dup16]

/-- Row 9 of the map of R95: opcode bytes 0x90 to 0x9f. -/
def opcodeRow9 : List OpcodeCell :=
  [.op .swap1, .op .swap2, .op .swap3, .op .swap4,
   .op .swap5, .op .swap6, .op .swap7, .op .swap8,
   .op .swap9, .op .swap10, .op .swap11, .op .swap12,
   .op .swap13, .op .swap14, .op .swap15, .op .swap16]

/-- Row a of the map of R95: opcode bytes 0xa0 to 0xaf. -/
def opcodeRowA : List OpcodeCell :=
  [.op .log0, .op .log1, .op .log2, .op .log3,
   .op .log4, .op .unassignedA5, .op .unassignedA6, .op .unassignedA7,
   .op .unassignedA8, .op .unassignedA9, .op .unassignedAA, .op .unassignedAB,
   .op .unassignedAC, .op .unassignedAD, .op .unassignedAE, .op .unassignedAF]

/-- Row b of the map of R95: opcode bytes 0xb0 to 0xbf. -/
def opcodeRowB : List OpcodeCell :=
  [.op .unassignedB0, .op .unassignedB1, .op .unassignedB2, .op .unassignedB3,
   .op .unassignedB4, .op .unassignedB5, .op .unassignedB6, .op .unassignedB7,
   .op .unassignedB8, .op .unassignedB9, .op .unassignedBA, .op .unassignedBB,
   .op .unassignedBC, .op .unassignedBD, .op .unassignedBE, .op .unassignedBF]

/-- Row c of the map of R95: opcode bytes 0xc0 to 0xcf. -/
def opcodeRowC : List OpcodeCell :=
  [.op .unassignedC0, .op .unassignedC1, .op .unassignedC2, .op .unassignedC3,
   .op .unassignedC4, .op .unassignedC5, .op .unassignedC6, .op .unassignedC7,
   .op .unassignedC8, .op .unassignedC9, .op .unassignedCA, .op .unassignedCB,
   .op .unassignedCC, .op .unassignedCD, .op .unassignedCE, .op .unassignedCF]

/-- Row d of the map of R95: opcode bytes 0xd0 to 0xdf. -/
def opcodeRowD : List OpcodeCell :=
  [.op .unassignedD0, .op .unassignedD1, .op .unassignedD2, .op .unassignedD3,
   .op .unassignedD4, .op .unassignedD5, .op .unassignedD6, .op .unassignedD7,
   .op .unassignedD8, .op .unassignedD9, .op .unassignedDA, .op .unassignedDB,
   .op .unassignedDC, .op .unassignedDD, .op .unassignedDE, .op .unassignedDF]

/-- Row e of the map of R95: opcode bytes 0xe0 to 0xef. -/
def opcodeRowE : List OpcodeCell :=
  [.op .unassignedE0, .op .unassignedE1, .op .unassignedE2, .op .unassignedE3,
   .op .unassignedE4, .op .unassignedE5, .op .unassignedE6, .op .unassignedE7,
   .op .unassignedE8, .op .unassignedE9, .op .unassignedEA, .op .unassignedEB,
   .op .unassignedEC, .op .unassignedED, .op .unassignedEE, .op .unassignedEF]

/-- Row f of the map of R95: opcode bytes 0xf0 to 0xff. -/
def opcodeRowF : List OpcodeCell :=
  [.op .create, .op .call, .op .callcode, .op .ret,
   .op .delegatecall, .op .create2, .op .unassignedF6, .op .unassignedF7,
   .op .unassignedF8, .op .unassignedF9, .op .staticcall, .op .unassignedFB,
   .op .unassignedFC, .op .revert, .op .invalid, .op .suicide]

/-- The rows of the map, by the high nibble of the opcode byte (R95). -/
def opcodeRow : Nat → List OpcodeCell
  | 0 => opcodeRow0
  | 1 => opcodeRow1
  | 2 => opcodeRow2
  | 3 => opcodeRow3
  | 4 => opcodeRow4
  | 5 => opcodeRow5
  | 6 => opcodeRow6
  | 7 => opcodeRow7
  | 8 => opcodeRow8
  | 9 => opcodeRow9
  | 10 => opcodeRowA
  | 11 => opcodeRowB
  | 12 => opcodeRowC
  | 13 => opcodeRowD
  | 14 => opcodeRowE
  | 15 => opcodeRowF
  | _ => []

/-- The cell of an opcode byte (R112). The default is never taken: there are 16 rows of 16 cells. -/
def opcodeCell (op : Byte) : OpcodeCell :=
  (opcodeRow (op.toNat / 16)).getD (op.toNat % 16) (.op .invalid)

/-- The instruction an opcode byte and the bytes after it spell, with the bytes left over. A PUSH takes its immediate from
the bytes after the opcode, as many as there are up to `n` (R93, R99). -/
def decodeInstr (op : Byte) (following : List Byte) : Instr × List Byte :=
  match opcodeCell op with
  | .op i => (i, following)
  | .push n mk => (mk (following.take n), following.drop n)

/-- Decoding of a byte sequence: its first instruction and the bytes after it. -/
def decode : List Byte → Except DecodeError (Instr × List Byte)
  | [] => .error .noOpcode
  | op :: following => .ok (decodeInstr op following)

/-- The opcode byte of an instruction (R95). -/
def Instr.opcode : Instr → Byte
  | .stop => 0x00#8
  | .add => 0x01#8
  | .mul => 0x02#8
  | .sub => 0x03#8
  | .div => 0x04#8
  | .sdiv => 0x05#8
  | .mod => 0x06#8
  | .smod => 0x07#8
  | .addmod => 0x08#8
  | .mulmod => 0x09#8
  | .exp => 0x0a#8
  | .signextend => 0x0b#8
  | .unassigned0C => 0x0c#8
  | .unassigned0D => 0x0d#8
  | .unassigned0E => 0x0e#8
  | .unassigned0F => 0x0f#8
  | .lt => 0x10#8
  | .gt => 0x11#8
  | .slt => 0x12#8
  | .sgt => 0x13#8
  | .eq => 0x14#8
  | .iszero => 0x15#8
  | .and => 0x16#8
  | .or => 0x17#8
  | .xor => 0x18#8
  | .not => 0x19#8
  | .byte => 0x1a#8
  | .shl => 0x1b#8
  | .shr => 0x1c#8
  | .sar => 0x1d#8
  | .unassigned1E => 0x1e#8
  | .unassigned1F => 0x1f#8
  | .sha3 => 0x20#8
  | .unassigned21 => 0x21#8
  | .unassigned22 => 0x22#8
  | .unassigned23 => 0x23#8
  | .unassigned24 => 0x24#8
  | .unassigned25 => 0x25#8
  | .unassigned26 => 0x26#8
  | .unassigned27 => 0x27#8
  | .unassigned28 => 0x28#8
  | .unassigned29 => 0x29#8
  | .unassigned2A => 0x2a#8
  | .unassigned2B => 0x2b#8
  | .unassigned2C => 0x2c#8
  | .unassigned2D => 0x2d#8
  | .unassigned2E => 0x2e#8
  | .unassigned2F => 0x2f#8
  | .address => 0x30#8
  | .balance => 0x31#8
  | .origin => 0x32#8
  | .caller => 0x33#8
  | .callvalue => 0x34#8
  | .calldataload => 0x35#8
  | .calldatasize => 0x36#8
  | .calldatacopy => 0x37#8
  | .codesize => 0x38#8
  | .codecopy => 0x39#8
  | .gasprice => 0x3a#8
  | .extcodesize => 0x3b#8
  | .extcodecopy => 0x3c#8
  | .returndatasize => 0x3d#8
  | .returndatacopy => 0x3e#8
  | .extcodehash => 0x3f#8
  | .blockhash => 0x40#8
  | .coinbase => 0x41#8
  | .timestamp => 0x42#8
  | .number => 0x43#8
  | .difficulty => 0x44#8
  | .gaslimit => 0x45#8
  | .unassigned46 => 0x46#8
  | .unassigned47 => 0x47#8
  | .unassigned48 => 0x48#8
  | .unassigned49 => 0x49#8
  | .unassigned4A => 0x4a#8
  | .unassigned4B => 0x4b#8
  | .unassigned4C => 0x4c#8
  | .unassigned4D => 0x4d#8
  | .unassigned4E => 0x4e#8
  | .unassigned4F => 0x4f#8
  | .pop => 0x50#8
  | .mload => 0x51#8
  | .mstore => 0x52#8
  | .mstore8 => 0x53#8
  | .sload => 0x54#8
  | .sstore => 0x55#8
  | .jump => 0x56#8
  | .jumpi => 0x57#8
  | .pc => 0x58#8
  | .msize => 0x59#8
  | .gas => 0x5a#8
  | .jumpdest => 0x5b#8
  | .unassigned5C => 0x5c#8
  | .unassigned5D => 0x5d#8
  | .unassigned5E => 0x5e#8
  | .unassigned5F => 0x5f#8
  | .push1 _ => 0x60#8
  | .push2 _ => 0x61#8
  | .push3 _ => 0x62#8
  | .push4 _ => 0x63#8
  | .push5 _ => 0x64#8
  | .push6 _ => 0x65#8
  | .push7 _ => 0x66#8
  | .push8 _ => 0x67#8
  | .push9 _ => 0x68#8
  | .push10 _ => 0x69#8
  | .push11 _ => 0x6a#8
  | .push12 _ => 0x6b#8
  | .push13 _ => 0x6c#8
  | .push14 _ => 0x6d#8
  | .push15 _ => 0x6e#8
  | .push16 _ => 0x6f#8
  | .push17 _ => 0x70#8
  | .push18 _ => 0x71#8
  | .push19 _ => 0x72#8
  | .push20 _ => 0x73#8
  | .push21 _ => 0x74#8
  | .push22 _ => 0x75#8
  | .push23 _ => 0x76#8
  | .push24 _ => 0x77#8
  | .push25 _ => 0x78#8
  | .push26 _ => 0x79#8
  | .push27 _ => 0x7a#8
  | .push28 _ => 0x7b#8
  | .push29 _ => 0x7c#8
  | .push30 _ => 0x7d#8
  | .push31 _ => 0x7e#8
  | .push32 _ => 0x7f#8
  | .dup1 => 0x80#8
  | .dup2 => 0x81#8
  | .dup3 => 0x82#8
  | .dup4 => 0x83#8
  | .dup5 => 0x84#8
  | .dup6 => 0x85#8
  | .dup7 => 0x86#8
  | .dup8 => 0x87#8
  | .dup9 => 0x88#8
  | .dup10 => 0x89#8
  | .dup11 => 0x8a#8
  | .dup12 => 0x8b#8
  | .dup13 => 0x8c#8
  | .dup14 => 0x8d#8
  | .dup15 => 0x8e#8
  | .dup16 => 0x8f#8
  | .swap1 => 0x90#8
  | .swap2 => 0x91#8
  | .swap3 => 0x92#8
  | .swap4 => 0x93#8
  | .swap5 => 0x94#8
  | .swap6 => 0x95#8
  | .swap7 => 0x96#8
  | .swap8 => 0x97#8
  | .swap9 => 0x98#8
  | .swap10 => 0x99#8
  | .swap11 => 0x9a#8
  | .swap12 => 0x9b#8
  | .swap13 => 0x9c#8
  | .swap14 => 0x9d#8
  | .swap15 => 0x9e#8
  | .swap16 => 0x9f#8
  | .log0 => 0xa0#8
  | .log1 => 0xa1#8
  | .log2 => 0xa2#8
  | .log3 => 0xa3#8
  | .log4 => 0xa4#8
  | .unassignedA5 => 0xa5#8
  | .unassignedA6 => 0xa6#8
  | .unassignedA7 => 0xa7#8
  | .unassignedA8 => 0xa8#8
  | .unassignedA9 => 0xa9#8
  | .unassignedAA => 0xaa#8
  | .unassignedAB => 0xab#8
  | .unassignedAC => 0xac#8
  | .unassignedAD => 0xad#8
  | .unassignedAE => 0xae#8
  | .unassignedAF => 0xaf#8
  | .unassignedB0 => 0xb0#8
  | .unassignedB1 => 0xb1#8
  | .unassignedB2 => 0xb2#8
  | .unassignedB3 => 0xb3#8
  | .unassignedB4 => 0xb4#8
  | .unassignedB5 => 0xb5#8
  | .unassignedB6 => 0xb6#8
  | .unassignedB7 => 0xb7#8
  | .unassignedB8 => 0xb8#8
  | .unassignedB9 => 0xb9#8
  | .unassignedBA => 0xba#8
  | .unassignedBB => 0xbb#8
  | .unassignedBC => 0xbc#8
  | .unassignedBD => 0xbd#8
  | .unassignedBE => 0xbe#8
  | .unassignedBF => 0xbf#8
  | .unassignedC0 => 0xc0#8
  | .unassignedC1 => 0xc1#8
  | .unassignedC2 => 0xc2#8
  | .unassignedC3 => 0xc3#8
  | .unassignedC4 => 0xc4#8
  | .unassignedC5 => 0xc5#8
  | .unassignedC6 => 0xc6#8
  | .unassignedC7 => 0xc7#8
  | .unassignedC8 => 0xc8#8
  | .unassignedC9 => 0xc9#8
  | .unassignedCA => 0xca#8
  | .unassignedCB => 0xcb#8
  | .unassignedCC => 0xcc#8
  | .unassignedCD => 0xcd#8
  | .unassignedCE => 0xce#8
  | .unassignedCF => 0xcf#8
  | .unassignedD0 => 0xd0#8
  | .unassignedD1 => 0xd1#8
  | .unassignedD2 => 0xd2#8
  | .unassignedD3 => 0xd3#8
  | .unassignedD4 => 0xd4#8
  | .unassignedD5 => 0xd5#8
  | .unassignedD6 => 0xd6#8
  | .unassignedD7 => 0xd7#8
  | .unassignedD8 => 0xd8#8
  | .unassignedD9 => 0xd9#8
  | .unassignedDA => 0xda#8
  | .unassignedDB => 0xdb#8
  | .unassignedDC => 0xdc#8
  | .unassignedDD => 0xdd#8
  | .unassignedDE => 0xde#8
  | .unassignedDF => 0xdf#8
  | .unassignedE0 => 0xe0#8
  | .unassignedE1 => 0xe1#8
  | .unassignedE2 => 0xe2#8
  | .unassignedE3 => 0xe3#8
  | .unassignedE4 => 0xe4#8
  | .unassignedE5 => 0xe5#8
  | .unassignedE6 => 0xe6#8
  | .unassignedE7 => 0xe7#8
  | .unassignedE8 => 0xe8#8
  | .unassignedE9 => 0xe9#8
  | .unassignedEA => 0xea#8
  | .unassignedEB => 0xeb#8
  | .unassignedEC => 0xec#8
  | .unassignedED => 0xed#8
  | .unassignedEE => 0xee#8
  | .unassignedEF => 0xef#8
  | .create => 0xf0#8
  | .call => 0xf1#8
  | .callcode => 0xf2#8
  | .ret => 0xf3#8
  | .delegatecall => 0xf4#8
  | .create2 => 0xf5#8
  | .unassignedF6 => 0xf6#8
  | .unassignedF7 => 0xf7#8
  | .unassignedF8 => 0xf8#8
  | .unassignedF9 => 0xf9#8
  | .staticcall => 0xfa#8
  | .unassignedFB => 0xfb#8
  | .unassignedFC => 0xfc#8
  | .revert => 0xfd#8
  | .invalid => 0xfe#8
  | .suicide => 0xff#8

/-- The bytes of an instruction: the opcode, then the immediate, most significant byte first (R90). -/
def encode (i : Instr) : List Byte := i.opcode :: i.immediate

/-- The greatest instruction length, that of PUSH32 (R91). -/
def maxInstrBytes : Nat := 33

/-- The `count` bytes of a number, least significant first: byte `k` is bits `8k+7 .. 8k`. -/
def bytesOfTableWord : Nat → Nat → List Byte
  | 0, _ => []
  | count + 1, w => BitVec.ofNat 8 w :: bytesOfTableWord count (w / 256)

/-- The bytes of an instruction whose bits are numbered as spec/opcode_table.json numbers them, zero above `nbits`. -/
def tableWordBytes (nbits w : Nat) : List Byte := bytesOfTableWord maxInstrBytes (w % 2 ^ nbits)

/-- The instruction the decoder reads from an instruction word numbered as the opcode table numbers it. -/
def decodeTableWord (nbits w : Nat) : Option Instr :=
  match decode (tableWordBytes nbits w) with
  | .ok (i, _) => some i
  | .error _ => none

end Sys2Proof
end

