-- ==== Sys2Proof/Machine/State.lean ====
section
/-! DEFINITION. The machine's state as plain data (10_state.md R20), the reasons a step can stop, the state after reset, and
one named update per component. -/

namespace Sys2Proof.Machine

/-- The eight error kinds (60_exceptions.md R440), in the order of their codes. -/
inductive ErrorKind where
  | constructionOverflow
  | divisionByZero
  | noMoreInstructions
  | unsupportedInstruction
  | invalidJumpDestination
  | stackUnderflow
  | dataSourceFailure
  | conversionOverflow
deriving DecidableEq, Repr

/-- The four halts (R29). `ret` and `revert` carry the return data. -/
inductive Halt where
  | stop
  | ret (data : List Byte)
  | revert (data : List Byte)
  | suicide
deriving DecidableEq, Repr

/-- The run-state register (R29). Only `running` has successors. -/
inductive Run where
  | running
  | halted (h : Halt)
  | faulted (k : ErrorKind)
deriving DecidableEq, Repr

/-- The eight context registers (R33), read-only to the machine. `gasprice`, `gas` and `timestamp` are read by no opcode. -/
structure Context where
  sender : Word
  recipient : Word
  value : Word
  input : List Byte
  gasprice : Word
  gas : Word
  height : Word
  timestamp : Word
deriving DecidableEq, Repr

/-- One log record (R37). -/
structure LogRecord where
  topics : List Word
  data : List Byte
deriving DecidableEq, Repr

/-- Data memory (R35, 20_memory.md R62): its length in bytes, and its bytes as the list of cells at rising addresses that
are not `unlistedByte`; see `Memory.wf` for the canonical form (log entry 11). -/
structure Memory where
  size : Nat
  cells : List Host.Cell
deriving DecidableEq, Repr

/-- What an address below the length that no cell lists reads as: expansion appends zero bytes (R64), so a byte never
written reads as 0 (R42). -/
abbrev unlistedByte : Byte := 0#8

/-- The canonical form of data memory: addresses strictly rising, no cell equal to `unlistedByte`, every cell below the
length. -/
abbrev Memory.wf (m : Memory) : Prop :=
  m.cells.Pairwise (fun a b => a.1 < b.1) ∧ ∀ c ∈ m.cells, c.2 ≠ unlistedByte ∧ c.1 < m.size

/-- The storage cache (R36): the present keys with their values. A present key may map to zero; an absent one is not listed
(log entry 14). -/
structure Storage where
  entries : List (Word × Word)
deriving DecidableEq, Repr

/-- The canonical form of the storage cache: keys strictly rising, hence unique (R36). -/
abbrev Storage.wf (m : Storage) : Prop := m.entries.Pairwise (fun a b => a.1.toNat < b.1.toNat)

/-- The state of one machine instance (R20), with the parameters of the run it was constructed with, and two fields of the
model's own (`freeIndex`, `fetches`). -/
structure State where
  /-- Run-state register (R29). -/
  run : Run
  /-- Program counter: a byte index into `code`, an exact natural (R21; log entry 10). -/
  pc : Nat
  /-- Operand stack, index 0 = top (R23). -/
  stack : List Word
  /-- Data memory (R35). -/
  mem : Memory
  /-- Storage cache (R36). -/
  storage : Storage
  /-- Log sink, oldest record first (R37). -/
  logs : List LogRecord
  /-- Halt flag set by REVERT (R30). -/
  reverted : Bool
  /-- Halt flag set by SUICIDE (R30). -/
  selfdestructed : Bool
  /-- Return data register (R32). -/
  returndata : List Byte
  /-- The code of the run, written by no step (20_memory.md R68). -/
  code : List Byte
  /-- The context registers of the run, written by no step (R33). -/
  ctx : Context
  /-- The parameters of the run, written by no step (00_scope.md R7; log entry 4). -/
  params : Params
  /-- THE MODEL'S OWN: how many free values have been drawn (log entry 2). -/
  freeIndex : Nat
  /-- THE MODEL'S OWN: the storage fetch requests issued so far, oldest first (log entry 3). -/
  fetches : List FetchRequest
deriving DecidableEq, Repr

/-- Why a step has no outcome: the machine is STUCK, which is neither a halt nor a fault of the spec's (those are next
states with `run = faulted k`). Safe: the model stops where the spec gives no successor. -/
inductive Fault where
  /-- Raised by `push`: the stack would outgrow a finite `STACK_CAPACITY` (40_dispatch.md R119). Safe. -/
  | stackCapacityExceeded
  /-- Raised by `expand`: memory would outgrow a finite `MEM_CAPACITY` (R119). Safe. -/
  | memCapacityExceeded
  /-- Raised by SLOAD of an absent key: the DataSource never answers (70_reset_and_hazards.md R496,
  93_implementation_defined.md I3). Safe. -/
  | dataSourceNeverAnswers
deriving DecidableEq, Repr

/-- Why the model answers nothing. Safe. -/
inductive Refusal where
  /-- Raised by an arm of `exec` whose instruction has no meaning yet. No arm does. Safe. -/
  | notModelled (mnemonic : String)
  /-- Raised by the raw memory unit when an access is not covered by the memory's length (20_memory.md R66, R67;
  93_implementation_defined.md I10: "at the raw memory unit, `refuse`"). No step reaches it: every instruction expands
  first (R65). Safe. -/
  | memoryNotCovered
deriving DecidableEq, Repr

/-- The outcome of a step or of a meaning. -/
abbrev Out := Host.Outcome State Fault Refusal

/-- The context registers of `State.reset`. The spec gives them no reset value, the driver supplies them (R33):
DESIGN CHOICE zero and empty, log entry 5. -/
def Context.zero : Context :=
  { sender := 0, recipient := 0, value := 0, input := [], gasprice := 0, gas := 0, height := 0, timestamp := 0 }

/-- The machine after construction (R41, 70_reset_and_hazards.md R481) from an empty code, no pre-seed and the context
`Context.zero`: what the driver supplies is DESIGN CHOICE, log entries 5 and 6; `params` holds the defaults of R7. -/
def State.reset : State :=
  { run := .running
    pc := 0
    stack := []
    mem := { size := 0, cells := [] }
    storage := { entries := [] }
    logs := []
    reverted := false
    selfdestructed := false
    returndata := []
    code := []
    ctx := Context.zero
    params := Params.default
    freeIndex := 0
    fetches := [] }

/-! One named update per component; their projection lemmas stand in Sys2Proof/Laws/State.lean. -/

def State.withRun (s : State) (v : Run) : State := { s with run := v }
def State.withPc (s : State) (v : Nat) : State := { s with pc := v }
def State.withStack (s : State) (v : List Word) : State := { s with stack := v }
def State.withMem (s : State) (v : Memory) : State := { s with mem := v }
def State.withStorage (s : State) (v : Storage) : State := { s with storage := v }
def State.withLogs (s : State) (v : List LogRecord) : State := { s with logs := v }
def State.withReverted (s : State) (v : Bool) : State := { s with reverted := v }
def State.withSelfdestructed (s : State) (v : Bool) : State := { s with selfdestructed := v }
def State.withReturndata (s : State) (v : List Byte) : State := { s with returndata := v }
def State.withFreeIndex (s : State) (v : Nat) : State := { s with freeIndex := v }
def State.withFetches (s : State) (v : List FetchRequest) : State := { s with fetches := v }
def State.withCode (s : State) (v : List Byte) : State := { s with code := v }

end Sys2Proof.Machine
end

