-- ==== Sys2Proof/Machine/Alu.lean ====
section
/-! DEFINITION. The 256-bit unsigned arithmetic unit (41_alu.md): its operations by value. Operands are read as naturals, the
result is formed exactly and narrowed with `W` (mod 2^256). -/

namespace Sys2Proof.Machine

/-- `M = 2^256`. -/
abbrev wordModulus : Nat := 2 ^ 256

/-- `bytes32(w)`: the 32 bytes of a Word, most significant first (R130). Byte `i` is `val(w) div 256^(31-i) mod 256`. -/
def auBytes32 (w : Word) : List Byte :=
  (List.range wordBytes).map fun i => w.extractLsb' (8 * (31 - i)) 8

/-- The natural a byte sequence spells, most significant byte first (R131). -/
def natOfBytes (bs : List Byte) : Nat := bs.foldl (fun acc b => acc * 256 + b.toNat) 0

/-- `word(bs)`: a Word from at most 32 bytes, left-padded with zero bytes (R131). -/
def auWord (bs : List Byte) : Except ErrorKind Word :=
  if bs.length > wordBytes then .error .constructionOverflow else .ok (W (natOfBytes bs))

/-- R133: wraps modulo 2^256, no overflow signal. -/
def auAdd (a b : Word) : Word := W (a.toNat + b.toNat)

/-- R135: `val(a) − val(b)`, plus 2^256 on borrow; no borrow signal. -/
def auSub (a b : Word) : Word :=
  if b.toNat ≤ a.toNat then W (a.toNat - b.toNat) else W (a.toNat + wordModulus - b.toNat)

/-- R138: the low 256 bits of the product. -/
def auMul (a b : Word) : Word := W (a.toNat * b.toNat)

/-- R139: floor quotient; a zero divisor is the unit's error. -/
def auDiv (a b : Word) : Except ErrorKind Word :=
  if b.toNat = 0 then .error .divisionByZero else .ok (W (a.toNat / b.toNat))

/-- R140: remainder; a zero divisor is the unit's error. -/
def auMod (a b : Word) : Except ErrorKind Word :=
  if b.toNat = 0 then .error .divisionByZero else .ok (W (a.toNat % b.toNat))

/-- Square-and-multiply over the low `bits` bits of the exponent `e`. -/
def auPow : (bits : Nat) → (a : Word) → (e : Nat) → Word
  | 0, _, _ => W 1
  | bits + 1, a, e =>
    if e % 2 = 1 then auMul a (auPow bits (auMul a a) (e / 2)) else auPow bits (auMul a a) (e / 2)

/-- R141: `val(a)^val(e) mod 2^256` with `x^0 = 1`, by square-and-multiply, an algorithm R137 allows because it is
numerically identical (log entry 16). -/
def auExp (a e : Word) : Word := auPow 256 a e.toNat

/-- R142: `val(a) · 2^n mod 2^256`; zero for `n ≥ 256`. -/
def auShl (a : Word) (n : U32) : Word :=
  if n.toNat < 256 then W (a.toNat * 2 ^ n.toNat) else W 0

/-- R143: `val(a) div 2^n`; zero for `n ≥ 256`. -/
def auShr (a : Word) (n : U32) : Word :=
  if n.toNat < 256 then W (a.toNat / 2 ^ n.toNat) else W 0

/-- R145. -/
def auAnd (a b : Word) : Word := a &&& b
/-- R146. -/
def auOr (a b : Word) : Word := a ||| b
/-- R147. -/
def auXor (a b : Word) : Word := a ^^^ b
/-- R148: every bit inverted. -/
def auNot (a : Word) : Word := ~~~a

/-- R150: unsigned. -/
def auLt (a b : Word) : Bool := a.toNat < b.toNat
/-- R151. -/
def auGt (a b : Word) : Bool := b.toNat < a.toNat
/-- R152. -/
def auEq (a b : Word) : Bool := a = b
/-- R153. -/
def auNe (a b : Word) : Bool := !auEq a b
/-- R154. -/
def auLe (a b : Word) : Bool := !auGt a b
/-- R155. -/
def auGe (a b : Word) : Bool := !auLt a b

/-- R163: the checked conversion to a 32-bit machine integer. -/
def auToU32 (w : Word) : Except ErrorKind Nat :=
  if w.toNat < 2 ^ machineIntBits then .ok w.toNat else .error .conversionOverflow

/-- R164: the conversion that ignores overflow; no opcode uses it. -/
def auToU32trunc (w : Word) : Nat := w.toNat % 2 ^ machineIntBits

/-- A hexadecimal digit, lower case (D31). -/
def hexDigit (n : Nat) : Char := "0123456789abcdef".toList.getD n '0'

/-- The two digits of each byte, high nibble first. -/
def hexOfBytes (bs : List Byte) : List Char :=
  bs.flatMap fun b => [hexDigit (b.toNat / 16), hexDigit (b.toNat % 16)]

/-- R165: the 64 digits of `bytes32(w)`, as a list of characters (log entry 17). -/
def auHexFull (w : Word) : List Char := hexOfBytes (auBytes32 w)

/-- R166, nibble-minimal: no leading zero digit, zero is `0`. -/
def auHexMinNibble (w : Word) : List Char :=
  match (auHexFull w).dropWhile (· == '0') with
  | [] => ['0']
  | ds => ds

/-- R166, byte-minimal: no leading zero byte, zero is `00`. -/
def auHexMinByte (w : Word) : List Char :=
  match (auBytes32 w).dropWhile (· == 0#8) with
  | [] => ['0', '0']
  | bs => hexOfBytes bs

end Sys2Proof.Machine
end

