-- ==== Sys2Proof/Machine/Memory.lean ====
section
/-! DEFINITION. The data memory unit (20_memory.md R62 to R67) and the storage cache (10_state.md R36, 20_memory.md R71) as
operations on their plain data. Each keeps its canonical form (Sys2Proof/Laws/Memory.lean, Sys2Proof/Laws/Storage.lean). -/

namespace Sys2Proof.Machine

/-- The byte a cell list gives an address. -/
def cellRead : List Host.Cell → Nat → Byte
  | [], _ => unlistedByte
  | (b, v) :: rest, a => if a = b then v else cellRead rest a

/-- Put a byte at an address of a rising cell list; `unlistedByte` removes the cell. -/
def cellWrite : List Host.Cell → Nat → Byte → List Host.Cell
  | [], a, v => if v = unlistedByte then [] else [(a, v)]
  | (b, w) :: rest, a, v =>
    if a < b then (if v = unlistedByte then (b, w) :: rest else (a, v) :: (b, w) :: rest)
    else if a = b then (if v = unlistedByte then rest else (a, v) :: rest)
    else (b, w) :: cellWrite rest a v

/-- `mem[a]`, the model's read of one byte. -/
def Memory.byte (m : Memory) (a : Nat) : Byte := cellRead m.cells a

/-- The bytes `mem[addr]` .. `mem[addr+n−1]`, lowest address first (R66). -/
def Memory.read (m : Memory) (addr n : Nat) : List Byte := (List.range n).map fun i => m.byte (addr + i)

/-- `mem[a] <- v`. -/
def Memory.setByte (m : Memory) (a : Nat) (v : Byte) : Memory := { m with cells := cellWrite m.cells a v }

/-- `mem[addr+i] <- bs[i]` for every byte of `bs` (R67). -/
def Memory.write (m : Memory) : (addr : Nat) → (bs : List Byte) → Memory
  | _, [] => m
  | addr, v :: bs => (m.setByte addr v).write (addr + 1) bs

/-- `n` rounded up to the next multiple of 32 (R64). -/
def roundUp (n : Nat) : Nat := memGranule * ((n + (memGranule - 1)) / memGranule)

/-- Memory of the length `expand(n)` gives: zero bytes are appended up to `roundUp n`, never taken away (R64). -/
def Memory.grown (m : Memory) (n : Nat) : Memory :=
  if roundUp n > m.size then { m with size := roundUp n } else m

/-- The cells of a byte sequence that starts at an address. -/
def cellsOfBytes : (addr : Nat) → List Byte → List Host.Cell
  | _, [] => []
  | addr, v :: bs => if v = unlistedByte then cellsOfBytes (addr + 1) bs else (addr, v) :: cellsOfBytes (addr + 1) bs

/-- The memory that holds exactly a byte sequence. -/
def Memory.ofBytes (bs : List Byte) : Memory := { size := bs.length, cells := cellsOfBytes 0 bs }

/-- The value of a key in an entry list; `none` when the key is absent. -/
def entryFind : List (Word × Word) → Word → Option Word
  | [], _ => none
  | (k, v) :: rest, key => if key = k then some v else entryFind rest key

/-- Insert or overwrite a key in an entry list with rising keys. -/
def entryInsert : List (Word × Word) → Word → Word → List (Word × Word)
  | [], key, value => [(key, value)]
  | (k, v) :: rest, key, value =>
    if key.toNat < k.toNat then (key, value) :: (k, v) :: rest
    else if key = k then (key, value) :: rest
    else (k, v) :: entryInsert rest key value

/-- The value of a present key, `none` when it is absent (R36). -/
def Storage.find (m : Storage) (key : Word) : Option Word := entryFind m.entries key

/-- `storage[key] <- value`: insert if absent, overwrite if present (46_storage.md R261). -/
def Storage.insert (m : Storage) (key value : Word) : Storage := { entries := entryInsert m.entries key value }

/-- The map of a list of pairs; of two pairs with one key the later one counts (log entry 14). -/
def Storage.ofList (pairs : List (Word × Word)) : Storage :=
  pairs.foldl (fun m p => m.insert p.1 p.2) { entries := [] }

end Sys2Proof.Machine
end

