-- ==== Sys2Proof/Machine/Ops.lean ====
section
/-! DEFINITION. The pseudocode primitives of 00_scope.md R9 over the state. A primitive that can end the step takes what comes
after it as a continuation `k`, so a meaning reads like the rule's pseudocode: the first statement that raises or halts
ends the step (R10). -/

namespace Sys2Proof.Machine

/-! ## Faults, halts, advance -/

/-- The state after `raise K` (40_dispatch.md R116, 60_exceptions.md R452): `run <- Faulted(K)`; every other component is a free
value, memory and storage ones of their own type's canonical form; the parameters of the run stay (log entry 1). -/
def faultState (kind : ErrorKind) (s : State) : State :=
  { run := .faulted kind
    pc := Config.faultPc s.freeIndex
    stack := Config.faultStack s.freeIndex
    mem := Memory.ofBytes (Config.faultMem s.freeIndex)
    storage := Storage.ofList (Config.faultStorage s.freeIndex)
    logs := (Config.faultLogs s.freeIndex).map fun r => { topics := r.1, data := r.2 }
    reverted := Config.faultReverted s.freeIndex
    selfdestructed := Config.faultSelfdestructed s.freeIndex
    returndata := Config.faultReturndata s.freeIndex
    code := s.code
    ctx := s.ctx
    params := s.params
    freeIndex := s.freeIndex + 1
    fetches := s.fetches }

/-- `raise K` (R116): the step ends in `Faulted(K)`. Taking a fault, the one operation for all eight kinds; there is no return
from one (60_exceptions.md R454). -/
def raise (kind : ErrorKind) (s : State) : Out := .next (faultState kind s)

/-- The numeric code of an error kind (60_exceptions.md R440, D27). -/
def errorCode : ErrorKind → Nat
  | .constructionOverflow => 1
  | .divisionByZero => 2
  | .noMoreInstructions => 3
  | .unsupportedInstruction => 4
  | .invalidJumpDestination => 5
  | .stackUnderflow => 6
  | .dataSourceFailure => 7
  | .conversionOverflow => 8

/-- Continue with a unit's result, or raise its error indication. -/
def orRaise {α : Type} (r : Except ErrorKind α) (s : State) (k : α → Out) : Out :=
  match r with
  | .ok v => k v
  | .error kind => raise kind s

/-- `halt H` (R117): `run <- Halted(H)`; every other component, `pc` among them, keeps its value. -/
def halt (h : Halt) (s : State) : Out := .next (s.withRun (.halted h))

/-- `pc <- t`, the last statement of an instruction (10_state.md R21). -/
def jumpTo (t : Nat) (s : State) : Out := .next (s.withPc t)

/-- `pc <- pc + L` (40_dispatch.md R115). -/
def advance (len : Nat) (s : State) : Out := jumpTo (s.pc + len) s

/-! ## Physical capacity (R119) -/

/-- A stack of this depth fits `STACK_CAPACITY`. -/
def stackFits (p : Params) (depth : Nat) : Bool :=
  match p.stackCapacity with
  | none => true
  | some c => depth ≤ c

/-- A memory of this length fits `MEM_CAPACITY`. -/
def memFits (p : Params) (size : Nat) : Bool :=
  match p.memCapacity with
  | none => true
  | some c => size ≤ c

/-! ## The stack (10_state.md R23 to R28) -/

/-- `pop()` (R25). -/
def pop (s : State) (k : Word → State → Out) : Out :=
  match s.stack with
  | [] => raise .stackUnderflow s
  | v :: rest => k v (s.withStack rest)

/-- `push(v)` (R24). It cannot fault; beyond a finite capacity the machine is stuck (R119, log entry 9). -/
def push (v : Word) (s : State) (k : State → Out) : Out :=
  if stackFits s.params (s.stack.length + 1) then k (s.withStack (v :: s.stack)) else .fault .stackCapacityExceeded

/-- `peek(i)` (R26). -/
def peek (i : Nat) (s : State) (k : Word → Out) : Out :=
  match s.stack[i]? with
  | none => raise .stackUnderflow s
  | some v => k v

/-- `set(i, v)` (R27). -/
def setEntry (i : Nat) (v : Word) (s : State) (k : State → Out) : Out :=
  if i < s.stack.length then k (s.withStack (s.stack.set i v)) else raise .stackUnderflow s

/-- `swapTop(i)` (R28), defined with `peek` and `set`. -/
def swapTop (i : Nat) (s : State) (k : State → Out) : Out :=
  peek i s fun v =>
  peek 0 s fun t =>
  setEntry 0 v s fun s =>
  setEntry i t s k

/-- Pop `n` entries, the first popped first in the list (44_memory_ops.md R216). -/
def popMany : (n : Nat) → (s : State) → (k : List Word → State → Out) → Out
  | 0, s, k => k [] s
  | n + 1, s, k => pop s fun v s => popMany n s fun vs s => k (v :: vs) s

/-! ## Data memory (20_memory.md R64 to R67) -/

/-- `expand(n)` (R64). It raises nothing; beyond a finite capacity the machine is stuck (R119, log entry 9). -/
def expand (n : Nat) (s : State) (k : State → Out) : Out :=
  if roundUp n > s.mem.size then
    (if memFits s.params (roundUp n) then k (s.withMem (s.mem.grown n)) else .fault .memCapacityExceeded)
  else k s

/-- `cover(o, s)` (R65): the expansion call before every access of `size` bytes at `o`. -/
def cover (o size : Nat) (s : State) (k : State → Out) : Out :=
  if 0 < size ∨ s.params.zeroSizeExpands = true then expand (o + size) s k else k s

/-- `MemRead(o, n)` (R66): empty for `n = 0` whatever `o` is; otherwise it requires `o + n ≤ msize` (log entry 12). -/
def memRead (o n : Nat) (s : State) (k : List Byte → Out) : Out :=
  if n = 0 then k []
  else if o + n ≤ s.mem.size then k (s.mem.read o n)
  else .refused .memoryNotCovered

/-- `MemWrite(o, len(bs), bs)` (R67): it requires `o + len(bs) ≤ msize` unless there is nothing to write (log entry 12). -/
def memWrite (o : Nat) (bs : List Byte) (s : State) (k : State → Out) : Out :=
  if bs.length = 0 then k s
  else if o + bs.length ≤ s.mem.size then k (s.withMem (s.mem.write o bs))
  else .refused .memoryNotCovered

/-! ## Code and input data (20_memory.md R68 to R70) -/

/-- `n` bytes of a byte sequence from an index, with 0 for the indices at or past its end (R223, R244). -/
def bytesFrom (bs : List Byte) (start n : Nat) : List Byte :=
  (List.range n).map fun i => if start + i < bs.length then bs.getD (start + i) 0#8 else 0#8

/-- `validDest(d)` (47_control.md R278): one byte is read and nothing else (D15). -/
def validDest (s : State) (d : Nat) : Bool := d < s.code.length && s.code[d]? == some jumpdestByte

/-! ## Storage (46_storage.md R260, R261) -/

/-- The fetch request of an absent key: the executing contract's address and the block height before the current one
(R260, D28). -/
def fetchRequest (s : State) (key : Word) : FetchRequest :=
  { address := s.ctx.recipient, index := key, height := auSub s.ctx.height (W 1) }

/-- The state once a fetch request has been issued: the request recorded, a free value drawn (log entries 2 and 3). -/
def afterRequest (s : State) (key : Word) : State :=
  (s.withFreeIndex (s.freeIndex + 1)).withFetches (s.fetches ++ [fetchRequest s key])

/-- What follows from the DataSource's answer (R260): a Word is inserted under the key, a failure raises
`DataSourceFailure`, no answer leaves the machine stuck (log entry 8). -/
def onAnswer (answer : FetchAnswer) (key : Word) (s : State) (k : Word → State → Out) : Out :=
  match answer with
  | .found r => k r (s.withStorage (s.storage.insert key r))
  | .failure => raise .dataSourceFailure s
  | .noAnswer => .fault .dataSourceNeverAnswers

/-- The value under a key, fetched first if the key is absent; a present key is never fetched again (R36, R260). -/
def loadKey (key : Word) (s : State) (k : Word → State → Out) : Out :=
  match s.storage.find key with
  | some v => k v s
  | none => onAnswer (Config.fetchStorage s.freeIndex (fetchRequest s key)) key (afterRequest s key) k

/-! ## Fetch (40_dispatch.md R111, R112) -/

/-- Fetch and decode at the program counter: past the end of the code `NoMoreInstructions`, otherwise the decoded
instruction. `pc` does not change. -/
def fetchInstr (s : State) (k : Instr → Out) : Out :=
  match decode (s.code.drop s.pc) with
  | .error .noOpcode => raise .noMoreInstructions s
  | .ok (i, _) => k i

end Sys2Proof.Machine
end

