-- ==== Sys2Proof/Machine/Operands.lean ====
section
/-! DEFINITION. The operand forms (30_encoding.md R94, 40_dispatch.md R114, 44_memory_ops.md R213): Words popped from the stack
in order, converted addresses and sizes, the PUSH immediate, and the result pushed last. -/

namespace Sys2Proof.Machine

/-- Two operands, the first popped first (R114). -/
def popTwo (s : State) (k : Word → Word → State → Out) : Out :=
  pop s fun a s => pop s fun b s => k a b s

/-- Three operands, the first popped first (R114). -/
def popThree (s : State) (k : Word → Word → Word → State → Out) : Out :=
  pop s fun a s => pop s fun b s => pop s fun c s => k a b c s

/-- An offset, size or destination as a natural, by the checked conversion (20_memory.md R61, D8). -/
def toIndex (w : Word) (s : State) (k : Nat → Out) : Out := orRaise (auToU32 w) s k

/-- The offset and size operands of a ranged access: both popped, then both converted, offset first; then memory covers the
range and its bytes are read (R213, R215, R216). -/
def popRange (s : State) (k : List Byte → State → Out) : Out :=
  popTwo s fun offset size s =>
  toIndex offset s fun o =>
  toIndex size s fun n =>
  cover o n s fun s =>
  memRead o n s fun bs => k bs s

/-- The result pushed, then the advance of an instruction of format OP. -/
def pushResult (v : Word) (s : State) : Out := push v s (advance 1)

/-- An instruction with two operands and a result. -/
def binaryOp (f : Word → Word → Word) (s : State) : Out :=
  popTwo s fun a b s => pushResult (f a b) s

/-- An instruction with one operand and a result. -/
def unaryOp (f : Word → Word) (s : State) : Out :=
  pop s fun a s => pushResult (f a) s

/-- PUSHn (48_stack.md R301): the immediate must lie within the code; it is read big-endian, zero-extended (R93). -/
def pushImmediate (n : Nat) (imm : List Byte) (s : State) : Out :=
  if s.pc + n ≥ s.code.length then raise .noMoreInstructions s
  else orRaise (auWord imm) s fun v => push v s (advance (1 + n))

/-- DUPn (R302). -/
def dupEntry (n : Nat) (s : State) : Out :=
  peek (n - 1) s fun v => pushResult v s

/-- SWAPn (R303). -/
def swapEntry (n : Nat) (s : State) : Out := swapTop n s (advance 1)

/-- LOGn (44_memory_ops.md R216): the data is sliced before the topics are popped. -/
def logRecord (n : Nat) (s : State) : Out :=
  popRange s fun data s =>
  popMany n s fun topics s =>
  advance 1 (s.withLogs (s.logs ++ [{ topics := topics, data := data }]))

/-- A byte value or opcode without a behaviour (49_unsupported.md R380): nothing is popped, nothing else happens. -/
def unsupported (s : State) : Out := raise .unsupportedInstruction s

end Sys2Proof.Machine
end

