-- ==== Sys2Proof/Machine/Flags.lean ====
section
/-! DEFINITION. The flags. There are no condition codes (10_state.md R31): a comparison's result is a Word, and the only
flags are the two halt flags (R30). -/

namespace Sys2Proof.Machine

/-- The Word a comparison pushes: 1 when it holds, 0 when it does not (43_comparison.md R200). -/
def boolWord (b : Bool) : Word := if b then W 1 else W 0

/-- `reverted <- true` (R30): written by REVERT only. -/
def setReverted (s : State) : State := s.withReverted true

/-- `selfdestructed <- true` (R30): written by SUICIDE only. -/
def setSelfdestructed (s : State) : State := s.withSelfdestructed true

end Sys2Proof.Machine
end

