-- ==== Sys2Proof/Machine/Arithmetic.lean ====
section
/-! DEFINITION. Arithmetic and bitwise instructions (42_arithmetic.md R180 to R192). Operand `a` is the first popped, `b` the
second, `m` the third (40_dispatch.md R114, D4). -/

namespace Sys2Proof.Machine

/-- ADD (R181). -/
def execAdd (s : State) : Out := binaryOp auAdd s

/-- SUB (R182): the minuend is the first popped. -/
def execSub (s : State) : Out := binaryOp auSub s

/-- MUL (R183). -/
def execMul (s : State) : Out := binaryOp auMul s

/-- DIV (R184): a zero divisor pushes 0, so the unit's `DivisionByZero` is never reached. -/
def execDiv (s : State) : Out :=
  popTwo s fun a b s =>
  if auEq b (W 0) then pushResult (W 0) s
  else orRaise (auDiv a b) s fun q => pushResult q s

/-- MOD (R185): a zero divisor pushes 0. -/
def execMod (s : State) : Out :=
  popTwo s fun a b s =>
  if auEq b (W 0) then pushResult (W 0) s
  else orRaise (auMod a b) s fun r => pushResult r s

/-- EXP (R186): the base is the first popped. -/
def execExp (s : State) : Out := binaryOp auExp s

/-- NOT (R187). -/
def execNot (s : State) : Out := unaryOp auNot s

/-- AND (R188). -/
def execAnd (s : State) : Out := binaryOp auAnd s

/-- OR (R189). -/
def execOr (s : State) : Out := binaryOp auOr s

/-- XOR (R190). -/
def execXor (s : State) : Out := binaryOp auXor s

/-- ADDMOD (R191): `MODARITH_WIDE` says whether the sum is exact or wraps before it is reduced (D5, log entry 4). -/
def execAddmod (s : State) : Out :=
  popThree s fun a b m s =>
  if auEq m (W 0) then pushResult (W 0) s
  else if s.params.modarithWide then pushResult (W ((a.toNat + b.toNat) % m.toNat)) s
  else orRaise (auMod (auAdd a b) m) s fun r => pushResult r s

/-- MULMOD (R192): `MODARITH_WIDE` says whether the product is exact or wraps before it is reduced (D5, log entry 4). -/
def execMulmod (s : State) : Out :=
  popThree s fun a b m s =>
  if auEq m (W 0) then pushResult (W 0) s
  else if s.params.modarithWide then pushResult (W ((a.toNat * b.toNat) % m.toNat)) s
  else orRaise (auMod (auMul a b) m) s fun r => pushResult r s

end Sys2Proof.Machine
end

