-- ==== Sys2Proof/Machine/Comparison.lean ====
section
/-! DEFINITION. Comparison instructions (43_comparison.md R200 to R204): unsigned, the result is the Word 1 or 0. -/

namespace Sys2Proof.Machine

/-- LT (R201). -/
def execLt (s : State) : Out := binaryOp (fun a b => boolWord (auLt a b)) s

/-- GT (R202). -/
def execGt (s : State) : Out := binaryOp (fun a b => boolWord (auGt a b)) s

/-- EQ (R203). -/
def execEq (s : State) : Out := binaryOp (fun a b => boolWord (auEq a b)) s

/-- ISZERO (R204). -/
def execIszero (s : State) : Out := unaryOp (fun a => boolWord (auEq a (W 0))) s

end Sys2Proof.Machine
end

