-- ==== Sys2Proof/Machine/ContextOps.lean ====
section
/-! DEFINITION. Context-reading instructions (45_context.md R240 to R248). -/

namespace Sys2Proof.Machine

/-- ADDRESS (R241). -/
def execAddress (s : State) : Out := pushResult s.ctx.recipient s

/-- ORIGIN (R242): the one sender register (D19). -/
def execOrigin (s : State) : Out := pushResult s.ctx.sender s

/-- CALLER (R243). -/
def execCaller (s : State) : Out := pushResult s.ctx.sender s

/-- CALLVALUE (R245). -/
def execCallvalue (s : State) : Out := pushResult s.ctx.value s

/-- CALLDATALOAD (R244): 32 input bytes from the popped offset, zero past the end of the input (D18). -/
def execCalldataload (s : State) : Out :=
  pop s fun offset s =>
  toIndex offset s fun i =>
  orRaise (auWord (bytesFrom s.ctx.input i wordBytes)) s fun v => pushResult v s

/-- CALLDATASIZE (R246). -/
def execCalldatasize (s : State) : Out := pushResult (W s.ctx.input.length) s

/-- PC (R248): the index of the PC opcode itself (D20). -/
def execPc (s : State) : Out := pushResult (W s.pc) s

/-- MSIZE (R247): the length of data memory in bytes (D20). -/
def execMsize (s : State) : Out := pushResult (W s.mem.size) s

end Sys2Proof.Machine
end

