-- ==== Sys2Proof/Machine/Control.lean ====
section
/-! DEFINITION. Control-flow and terminal instructions (47_control.md R270 to R279). -/

namespace Sys2Proof.Machine

/-- JUMP (R270): `pc` becomes the index of the marker itself. -/
def execJump (s : State) : Out :=
  pop s fun dest s =>
  toIndex dest s fun d =>
  if validDest s d then jumpTo d s else raise .invalidJumpDestination s

/-- JUMPI (R271): with a zero condition the destination is neither converted nor validated (D15, D16). -/
def execJumpi (s : State) : Out :=
  popTwo s fun dest cond s =>
  if auNe cond (W 0) then
    toIndex dest s fun d =>
    if validDest s d then jumpTo d s else raise .invalidJumpDestination s
  else advance 1 s

/-- JUMPDEST (R272): a no-op (D14). -/
def execJumpdest (s : State) : Out := advance 1 s

/-- STOP (R273). -/
def execStop (s : State) : Out := halt .stop (s.withReturndata [])

/-- RETURN (R274). -/
def execRet (s : State) : Out :=
  popRange s fun d s => halt (.ret d) (s.withReturndata d)

/-- REVERT (R275): nothing is undone. -/
def execRevert (s : State) : Out :=
  popRange s fun d s => halt (.revert d) (setReverted (s.withReturndata d))

/-- SUICIDE (R276): the beneficiary is discarded. -/
def execSuicide (s : State) : Out :=
  pop s fun _ s => halt .suicide (setSelfdestructed s)

end Sys2Proof.Machine
end

