-- ==== Sys2Proof/Machine/MemoryOps.lean ====
section
/-! DEFINITION. Memory, hashing, logging and code-copy instructions (44_memory_ops.md R210 to R223). Operands are popped,
then converted, then memory is covered, then accessed (R213). -/

namespace Sys2Proof.Machine

/-- MLOAD (R210). -/
def execMload (s : State) : Out :=
  pop s fun offset s =>
  toIndex offset s fun o =>
  cover o wordBytes s fun s =>
  memRead o wordBytes s fun bs =>
  orRaise (auWord bs) s fun v => pushResult v s

/-- MSTORE (R211): the most significant byte goes to `mem[o]`. -/
def execMstore (s : State) : Out :=
  popTwo s fun offset value s =>
  toIndex offset s fun o =>
  cover o wordBytes s fun s =>
  memWrite o (auBytes32 value) s (advance 1)

/-- MSTORE8 (R212): the least significant byte of the value (D17). -/
def execMstore8 (s : State) : Out :=
  popTwo s fun offset value s =>
  toIndex offset s fun o =>
  cover o 1 s fun s =>
  memWrite o [value.setWidth 8] s (advance 1)

/-- SHA3 (R215): `HASH` is uninterpreted (log entry 7). -/
def execSha3 (s : State) : Out :=
  popRange s fun bs s => pushResult (Config.hash bs) s

/-- LOG0 (R218). -/
def execLog0 (s : State) : Out := logRecord 0 s
/-- LOG1 (R219). -/
def execLog1 (s : State) : Out := logRecord 1 s
/-- LOG2 (R220). -/
def execLog2 (s : State) : Out := logRecord 2 s
/-- LOG3 (R221). -/
def execLog3 (s : State) : Out := logRecord 3 s
/-- LOG4 (R222). -/
def execLog4 (s : State) : Out := logRecord 4 s

/-- CODECOPY (R223): destination, code offset, length (D37); zero bytes past the end of the code. -/
def execCodecopy (s : State) : Out :=
  popThree s fun dest codeOffset length s =>
  toIndex dest s fun d =>
  toIndex codeOffset s fun c =>
  toIndex length s fun n =>
  cover d n s fun s =>
  memWrite d (bytesFrom s.code c n) s (advance 1)

end Sys2Proof.Machine
end

