-- ==== Sys2Proof/Machine/StackOps.lean ====
section
/-! DEFINITION. Stack instructions (48_stack.md R300 to R368). -/

namespace Sys2Proof.Machine

/-- POP (R304). -/
def execPop (s : State) : Out := pop s fun _ s => advance 1 s

/-- PUSH1 (R305). -/
def execPush1 (imm : List Byte) (s : State) : Out := pushImmediate 1 imm s
/-- PUSH2 (R306). -/
def execPush2 (imm : List Byte) (s : State) : Out := pushImmediate 2 imm s
/-- PUSH3 (R307). -/
def execPush3 (imm : List Byte) (s : State) : Out := pushImmediate 3 imm s
/-- PUSH4 (R308). -/
def execPush4 (imm : List Byte) (s : State) : Out := pushImmediate 4 imm s
/-- PUSH5 (R309). -/
def execPush5 (imm : List Byte) (s : State) : Out := pushImmediate 5 imm s
/-- PUSH6 (R310). -/
def execPush6 (imm : List Byte) (s : State) : Out := pushImmediate 6 imm s
/-- PUSH7 (R311). -/
def execPush7 (imm : List Byte) (s : State) : Out := pushImmediate 7 imm s
/-- PUSH8 (R312). -/
def execPush8 (imm : List Byte) (s : State) : Out := pushImmediate 8 imm s
/-- PUSH9 (R313). -/
def execPush9 (imm : List Byte) (s : State) : Out := pushImmediate 9 imm s
/-- PUSH10 (R314). -/
def execPush10 (imm : List Byte) (s : State) : Out := pushImmediate 10 imm s
/-- PUSH11 (R315). -/
def execPush11 (imm : List Byte) (s : State) : Out := pushImmediate 11 imm s
/-- PUSH12 (R316). -/
def execPush12 (imm : List Byte) (s : State) : Out := pushImmediate 12 imm s
/-- PUSH13 (R317). -/
def execPush13 (imm : List Byte) (s : State) : Out := pushImmediate 13 imm s
/-- PUSH14 (R318). -/
def execPush14 (imm : List Byte) (s : State) : Out := pushImmediate 14 imm s
/-- PUSH15 (R319). -/
def execPush15 (imm : List Byte) (s : State) : Out := pushImmediate 15 imm s
/-- PUSH16 (R320). -/
def execPush16 (imm : List Byte) (s : State) : Out := pushImmediate 16 imm s
/-- PUSH17 (R321). -/
def execPush17 (imm : List Byte) (s : State) : Out := pushImmediate 17 imm s
/-- PUSH18 (R322). -/
def execPush18 (imm : List Byte) (s : State) : Out := pushImmediate 18 imm s
/-- PUSH19 (R323). -/
def execPush19 (imm : List Byte) (s : State) : Out := pushImmediate 19 imm s
/-- PUSH20 (R324). -/
def execPush20 (imm : List Byte) (s : State) : Out := pushImmediate 20 imm s
/-- PUSH21 (R325). -/
def execPush21 (imm : List Byte) (s : State) : Out := pushImmediate 21 imm s
/-- PUSH22 (R326). -/
def execPush22 (imm : List Byte) (s : State) : Out := pushImmediate 22 imm s
/-- PUSH23 (R327). -/
def execPush23 (imm : List Byte) (s : State) : Out := pushImmediate 23 imm s
/-- PUSH24 (R328). -/
def execPush24 (imm : List Byte) (s : State) : Out := pushImmediate 24 imm s
/-- PUSH25 (R329). -/
def execPush25 (imm : List Byte) (s : State) : Out := pushImmediate 25 imm s
/-- PUSH26 (R330). -/
def execPush26 (imm : List Byte) (s : State) : Out := pushImmediate 26 imm s
/-- PUSH27 (R331). -/
def execPush27 (imm : List Byte) (s : State) : Out := pushImmediate 27 imm s
/-- PUSH28 (R332). -/
def execPush28 (imm : List Byte) (s : State) : Out := pushImmediate 28 imm s
/-- PUSH29 (R333). -/
def execPush29 (imm : List Byte) (s : State) : Out := pushImmediate 29 imm s
/-- PUSH30 (R334). -/
def execPush30 (imm : List Byte) (s : State) : Out := pushImmediate 30 imm s
/-- PUSH31 (R335). -/
def execPush31 (imm : List Byte) (s : State) : Out := pushImmediate 31 imm s
/-- PUSH32 (R336). -/
def execPush32 (imm : List Byte) (s : State) : Out := pushImmediate 32 imm s

/-- DUP1 (R337). -/
def execDup1 (s : State) : Out := dupEntry 1 s
/-- DUP2 (R338). -/
def execDup2 (s : State) : Out := dupEntry 2 s
/-- DUP3 (R339). -/
def execDup3 (s : State) : Out := dupEntry 3 s
/-- DUP4 (R340). -/
def execDup4 (s : State) : Out := dupEntry 4 s
/-- DUP5 (R341). -/
def execDup5 (s : State) : Out := dupEntry 5 s
/-- DUP6 (R342). -/
def execDup6 (s : State) : Out := dupEntry 6 s
/-- DUP7 (R343). -/
def execDup7 (s : State) : Out := dupEntry 7 s
/-- DUP8 (R344). -/
def execDup8 (s : State) : Out := dupEntry 8 s
/-- DUP9 (R345). -/
def execDup9 (s : State) : Out := dupEntry 9 s
/-- DUP10 (R346). -/
def execDup10 (s : State) : Out := dupEntry 10 s
/-- DUP11 (R347). -/
def execDup11 (s : State) : Out := dupEntry 11 s
/-- DUP12 (R348). -/
def execDup12 (s : State) : Out := dupEntry 12 s
/-- DUP13 (R349). -/
def execDup13 (s : State) : Out := dupEntry 13 s
/-- DUP14 (R350). -/
def execDup14 (s : State) : Out := dupEntry 14 s
/-- DUP15 (R351). -/
def execDup15 (s : State) : Out := dupEntry 15 s
/-- DUP16 (R352). -/
def execDup16 (s : State) : Out := dupEntry 16 s

/-- SWAP1 (R353). -/
def execSwap1 (s : State) : Out := swapEntry 1 s
/-- SWAP2 (R354). -/
def execSwap2 (s : State) : Out := swapEntry 2 s
/-- SWAP3 (R355). -/
def execSwap3 (s : State) : Out := swapEntry 3 s
/-- SWAP4 (R356). -/
def execSwap4 (s : State) : Out := swapEntry 4 s
/-- SWAP5 (R357). -/
def execSwap5 (s : State) : Out := swapEntry 5 s
/-- SWAP6 (R358). -/
def execSwap6 (s : State) : Out := swapEntry 6 s
/-- SWAP7 (R359). -/
def execSwap7 (s : State) : Out := swapEntry 7 s
/-- SWAP8 (R360). -/
def execSwap8 (s : State) : Out := swapEntry 8 s
/-- SWAP9 (R361). -/
def execSwap9 (s : State) : Out := swapEntry 9 s
/-- SWAP10 (R362). -/
def execSwap10 (s : State) : Out := swapEntry 10 s
/-- SWAP11 (R363). -/
def execSwap11 (s : State) : Out := swapEntry 11 s
/-- SWAP12 (R364). -/
def execSwap12 (s : State) : Out := swapEntry 12 s
/-- SWAP13 (R365). -/
def execSwap13 (s : State) : Out := swapEntry 13 s
/-- SWAP14 (R366). -/
def execSwap14 (s : State) : Out := swapEntry 14 s
/-- SWAP15 (R367). -/
def execSwap15 (s : State) : Out := swapEntry 15 s
/-- SWAP16 (R368). -/
def execSwap16 (s : State) : Out := swapEntry 16 s

end Sys2Proof.Machine
end

