-- ==== Sys2Proof/Machine/StorageOps.lean ====
section
/-! DEFINITION. Storage instructions (46_storage.md R260 to R263). -/

namespace Sys2Proof.Machine

/-- SLOAD (R260). -/
def execSload (s : State) : Out :=
  pop s fun key s => loadKey key s fun v s => pushResult v s

/-- SSTORE (R261): the key is the first popped (D17); the DataSource is never consulted. -/
def execSstore (s : State) : Out :=
  popTwo s fun key value s => advance 1 (s.withStorage (s.storage.insert key value))

end Sys2Proof.Machine
end

