-- ==== Sys2Proof/Machine/Unsupported.lean ====
section
/-! DEFINITION. The 148 opcode bytes without a behaviour (49_unsupported.md R380 to R414): each raises
`UnsupportedInstruction` and does nothing else. One definition per byte value. -/

namespace Sys2Proof.Machine

/-- SDIV (R381). -/
def execSdiv (s : State) : Out := unsupported s
/-- SMOD (R382). -/
def execSmod (s : State) : Out := unsupported s
/-- SIGNEXTEND (R383). -/
def execSignextend (s : State) : Out := unsupported s
/-- SLT (R384). -/
def execSlt (s : State) : Out := unsupported s
/-- SGT (R385). -/
def execSgt (s : State) : Out := unsupported s
/-- BYTE (R386). -/
def execByte (s : State) : Out := unsupported s
/-- SHL (R406). -/
def execShl (s : State) : Out := unsupported s
/-- SHR (R407). -/
def execShr (s : State) : Out := unsupported s
/-- SAR (R408). -/
def execSar (s : State) : Out := unsupported s
/-- BALANCE (R387). -/
def execBalance (s : State) : Out := unsupported s
/-- CALLDATACOPY (R409). -/
def execCalldatacopy (s : State) : Out := unsupported s
/-- CODESIZE (R410). -/
def execCodesize (s : State) : Out := unsupported s
/-- GASPRICE (R388). -/
def execGasprice (s : State) : Out := unsupported s
/-- EXTCODESIZE (R389). -/
def execExtcodesize (s : State) : Out := unsupported s
/-- EXTCODECOPY (R390). -/
def execExtcodecopy (s : State) : Out := unsupported s
/-- RETURNDATASIZE (R391). -/
def execReturndatasize (s : State) : Out := unsupported s
/-- RETURNDATACOPY (R392). -/
def execReturndatacopy (s : State) : Out := unsupported s
/-- EXTCODEHASH (R411). -/
def execExtcodehash (s : State) : Out := unsupported s
/-- BLOCKHASH (R393). -/
def execBlockhash (s : State) : Out := unsupported s
/-- COINBASE (R394). -/
def execCoinbase (s : State) : Out := unsupported s
/-- TIMESTAMP (R395). -/
def execTimestamp (s : State) : Out := unsupported s
/-- NUMBER (R396). -/
def execNumber (s : State) : Out := unsupported s
/-- DIFFICULTY (R397). -/
def execDifficulty (s : State) : Out := unsupported s
/-- GASLIMIT (R398). -/
def execGaslimit (s : State) : Out := unsupported s
/-- GAS (R399). -/
def execGas (s : State) : Out := unsupported s
/-- CREATE (R400). -/
def execCreate (s : State) : Out := unsupported s
/-- CALL (R401). -/
def execCall (s : State) : Out := unsupported s
/-- CALLCODE (R402). -/
def execCallcode (s : State) : Out := unsupported s
/-- DELEGATECALL (R403). -/
def execDelegatecall (s : State) : Out := unsupported s
/-- CREATE2 (R404). -/
def execCreate2 (s : State) : Out := unsupported s
/-- STATICCALL (R405). -/
def execStaticcall (s : State) : Out := unsupported s
/-- INVALID (R412). -/
def execInvalid (s : State) : Out := unsupported s

/-! The byte values to which no instruction is assigned (R413). -/

def execUnassigned0C (s : State) : Out := unsupported s
def execUnassigned0D (s : State) : Out := unsupported s
def execUnassigned0E (s : State) : Out := unsupported s
def execUnassigned0F (s : State) : Out := unsupported s
def execUnassigned1E (s : State) : Out := unsupported s
def execUnassigned1F (s : State) : Out := unsupported s
def execUnassigned21 (s : State) : Out := unsupported s
def execUnassigned22 (s : State) : Out := unsupported s
def execUnassigned23 (s : State) : Out := unsupported s
def execUnassigned24 (s : State) : Out := unsupported s
def execUnassigned25 (s : State) : Out := unsupported s
def execUnassigned26 (s : State) : Out := unsupported s
def execUnassigned27 (s : State) : Out := unsupported s
def execUnassigned28 (s : State) : Out := unsupported s
def execUnassigned29 (s : State) : Out := unsupported s
def execUnassigned2A (s : State) : Out := unsupported s
def execUnassigned2B (s : State) : Out := unsupported s
def execUnassigned2C (s : State) : Out := unsupported s
def execUnassigned2D (s : State) : Out := unsupported s
def execUnassigned2E (s : State) : Out := unsupported s
def execUnassigned2F (s : State) : Out := unsupported s
def execUnassigned46 (s : State) : Out := unsupported s
def execUnassigned47 (s : State) : Out := unsupported s
def execUnassigned48 (s : State) : Out := unsupported s
def execUnassigned49 (s : State) : Out := unsupported s
def execUnassigned4A (s : State) : Out := unsupported s
def execUnassigned4B (s : State) : Out := unsupported s
def execUnassigned4C (s : State) : Out := unsupported s
def execUnassigned4D (s : State) : Out := unsupported s
def execUnassigned4E (s : State) : Out := unsupported s
def execUnassigned4F (s : State) : Out := unsupported s
def execUnassigned5C (s : State) : Out := unsupported s
def execUnassigned5D (s : State) : Out := unsupported s
def execUnassigned5E (s : State) : Out := unsupported s
def execUnassigned5F (s : State) : Out := unsupported s
def execUnassignedA5 (s : State) : Out := unsupported s
def execUnassignedA6 (s : State) : Out := unsupported s
def execUnassignedA7 (s : State) : Out := unsupported s
def execUnassignedA8 (s : State) : Out := unsupported s
def execUnassignedA9 (s : State) : Out := unsupported s
def execUnassignedAA (s : State) : Out := unsupported s
def execUnassignedAB (s : State) : Out := unsupported s
def execUnassignedAC (s : State) : Out := unsupported s
def execUnassignedAD (s : State) : Out := unsupported s
def execUnassignedAE (s : State) : Out := unsupported s
def execUnassignedAF (s : State) : Out := unsupported s
def execUnassignedB0 (s : State) : Out := unsupported s
def execUnassignedB1 (s : State) : Out := unsupported s
def execUnassignedB2 (s : State) : Out := unsupported s
def execUnassignedB3 (s : State) : Out := unsupported s
def execUnassignedB4 (s : State) : Out := unsupported s
def execUnassignedB5 (s : State) : Out := unsupported s
def execUnassignedB6 (s : State) : Out := unsupported s
def execUnassignedB7 (s : State) : Out := unsupported s
def execUnassignedB8 (s : State) : Out := unsupported s
def execUnassignedB9 (s : State) : Out := unsupported s
def execUnassignedBA (s : State) : Out := unsupported s
def execUnassignedBB (s : State) : Out := unsupported s
def execUnassignedBC (s : State) : Out := unsupported s
def execUnassignedBD (s : State) : Out := unsupported s
def execUnassignedBE (s : State) : Out := unsupported s
def execUnassignedBF (s : State) : Out := unsupported s
def execUnassignedC0 (s : State) : Out := unsupported s
def execUnassignedC1 (s : State) : Out := unsupported s
def execUnassignedC2 (s : State) : Out := unsupported s
def execUnassignedC3 (s : State) : Out := unsupported s
def execUnassignedC4 (s : State) : Out := unsupported s
def execUnassignedC5 (s : State) : Out := unsupported s
def execUnassignedC6 (s : State) : Out := unsupported s
def execUnassignedC7 (s : State) : Out := unsupported s
def execUnassignedC8 (s : State) : Out := unsupported s
def execUnassignedC9 (s : State) : Out := unsupported s
def execUnassignedCA (s : State) : Out := unsupported s
def execUnassignedCB (s : State) : Out := unsupported s
def execUnassignedCC (s : State) : Out := unsupported s
def execUnassignedCD (s : State) : Out := unsupported s
def execUnassignedCE (s : State) : Out := unsupported s
def execUnassignedCF (s : State) : Out := unsupported s
def execUnassignedD0 (s : State) : Out := unsupported s
def execUnassignedD1 (s : State) : Out := unsupported s
def execUnassignedD2 (s : State) : Out := unsupported s
def execUnassignedD3 (s : State) : Out := unsupported s
def execUnassignedD4 (s : State) : Out := unsupported s
def execUnassignedD5 (s : State) : Out := unsupported s
def execUnassignedD6 (s : State) : Out := unsupported s
def execUnassignedD7 (s : State) : Out := unsupported s
def execUnassignedD8 (s : State) : Out := unsupported s
def execUnassignedD9 (s : State) : Out := unsupported s
def execUnassignedDA (s : State) : Out := unsupported s
def execUnassignedDB (s : State) : Out := unsupported s
def execUnassignedDC (s : State) : Out := unsupported s
def execUnassignedDD (s : State) : Out := unsupported s
def execUnassignedDE (s : State) : Out := unsupported s
def execUnassignedDF (s : State) : Out := unsupported s
def execUnassignedE0 (s : State) : Out := unsupported s
def execUnassignedE1 (s : State) : Out := unsupported s
def execUnassignedE2 (s : State) : Out := unsupported s
def execUnassignedE3 (s : State) : Out := unsupported s
def execUnassignedE4 (s : State) : Out := unsupported s
def execUnassignedE5 (s : State) : Out := unsupported s
def execUnassignedE6 (s : State) : Out := unsupported s
def execUnassignedE7 (s : State) : Out := unsupported s
def execUnassignedE8 (s : State) : Out := unsupported s
def execUnassignedE9 (s : State) : Out := unsupported s
def execUnassignedEA (s : State) : Out := unsupported s
def execUnassignedEB (s : State) : Out := unsupported s
def execUnassignedEC (s : State) : Out := unsupported s
def execUnassignedED (s : State) : Out := unsupported s
def execUnassignedEE (s : State) : Out := unsupported s
def execUnassignedEF (s : State) : Out := unsupported s
def execUnassignedF6 (s : State) : Out := unsupported s
def execUnassignedF7 (s : State) : Out := unsupported s
def execUnassignedF8 (s : State) : Out := unsupported s
def execUnassignedF9 (s : State) : Out := unsupported s
def execUnassignedFB (s : State) : Out := unsupported s
def execUnassignedFC (s : State) : Out := unsupported s

end Sys2Proof.Machine
end

