-- ==== Sys2Proof/Machine/Step.lean ====
section
/-! DEFINITION. One step of the dispatcher (40_dispatch.md R110), and where the host puts an instruction for the next step to
fetch. -/

namespace Sys2Proof.Machine

/-- R110: fetch, decode, execute; in a terminal state no step is taken and nothing changes (R121, D24). -/
def step (s : State) : Host.Outcome State Fault Refusal :=
  match s.run with
  | .running => fetchInstr s fun i => exec i s
  | .halted _ => .next s
  | .faulted _ => .next s

/-- `s`, running, with the bytes of an instruction in its code at `pc`, zero bytes filling up to `pc` where the code is
shorter (log entry 6). -/
def State.withFetchWord (s : State) (nbits w : Nat) : State :=
  (s.withRun .running).withCode
    (bytesFrom s.code 0 s.pc ++ tableWordBytes nbits w ++ s.code.drop (s.pc + maxInstrBytes))

end Sys2Proof.Machine
end

