-- ==== Sys2Proof/Laws/PerInstr.lean ====
section
/-! SUPPORT. The family EncodedLength: an encoded well-formed instruction is `L(op)` bytes long (30_encoding.md R91), one lemma per
constructor. -/

namespace Sys2Proof.Laws.EncodedLength

/-- The encoding of a well-formed instruction has the length R91 gives its opcode byte. -/
def Statement (i : Instr) : Prop :=
  i.WellFormed → (encode i).length = if 0x60 ≤ i.opcode.toNat ∧ i.opcode.toNat ≤ 0x7f then 1 + (i.opcode.toNat - 0x5f) else 1

theorem stop : Statement .stop := fun _ => rfl
theorem add : Statement .add := fun _ => rfl
theorem mul : Statement .mul := fun _ => rfl
theorem sub : Statement .sub := fun _ => rfl
theorem div : Statement .div := fun _ => rfl
theorem sdiv : Statement .sdiv := fun _ => rfl
theorem mod : Statement .mod := fun _ => rfl
theorem smod : Statement .smod := fun _ => rfl
theorem addmod : Statement .addmod := fun _ => rfl
theorem mulmod : Statement .mulmod := fun _ => rfl
theorem exp : Statement .exp := fun _ => rfl
theorem signextend : Statement .signextend := fun _ => rfl
theorem unassigned0C : Statement .unassigned0C := fun _ => rfl
theorem unassigned0D : Statement .unassigned0D := fun _ => rfl
theorem unassigned0E : Statement .unassigned0E := fun _ => rfl
theorem unassigned0F : Statement .unassigned0F := fun _ => rfl
theorem lt : Statement .lt := fun _ => rfl
theorem gt : Statement .gt := fun _ => rfl
theorem slt : Statement .slt := fun _ => rfl
theorem sgt : Statement .sgt := fun _ => rfl
theorem eq : Statement .eq := fun _ => rfl
theorem iszero : Statement .iszero := fun _ => rfl
theorem and : Statement .and := fun _ => rfl
theorem or : Statement .or := fun _ => rfl
theorem xor : Statement .xor := fun _ => rfl
theorem not : Statement .not := fun _ => rfl
theorem byte : Statement .byte := fun _ => rfl
theorem shl : Statement .shl := fun _ => rfl
theorem shr : Statement .shr := fun _ => rfl
theorem sar : Statement .sar := fun _ => rfl
theorem unassigned1E : Statement .unassigned1E := fun _ => rfl
theorem unassigned1F : Statement .unassigned1F := fun _ => rfl
theorem sha3 : Statement .sha3 := fun _ => rfl
theorem unassigned21 : Statement .unassigned21 := fun _ => rfl
theorem unassigned22 : Statement .unassigned22 := fun _ => rfl
theorem unassigned23 : Statement .unassigned23 := fun _ => rfl
theorem unassigned24 : Statement .unassigned24 := fun _ => rfl
theorem unassigned25 : Statement .unassigned25 := fun _ => rfl
theorem unassigned26 : Statement .unassigned26 := fun _ => rfl
theorem unassigned27 : Statement .unassigned27 := fun _ => rfl
theorem unassigned28 : Statement .unassigned28 := fun _ => rfl
theorem unassigned29 : Statement .unassigned29 := fun _ => rfl
theorem unassigned2A : Statement .unassigned2A := fun _ => rfl
theorem unassigned2B : Statement .unassigned2B := fun _ => rfl
theorem unassigned2C : Statement .unassigned2C := fun _ => rfl
theorem unassigned2D : Statement .unassigned2D := fun _ => rfl
theorem unassigned2E : Statement .unassigned2E := fun _ => rfl
theorem unassigned2F : Statement .unassigned2F := fun _ => rfl
theorem address : Statement .address := fun _ => rfl
theorem balance : Statement .balance := fun _ => rfl
theorem origin : Statement .origin := fun _ => rfl
theorem caller : Statement .caller := fun _ => rfl
theorem callvalue : Statement .callvalue := fun _ => rfl
theorem calldataload : Statement .calldataload := fun _ => rfl
theorem calldatasize : Statement .calldatasize := fun _ => rfl
theorem calldatacopy : Statement .calldatacopy := fun _ => rfl
theorem codesize : Statement .codesize := fun _ => rfl
theorem codecopy : Statement .codecopy := fun _ => rfl
theorem gasprice : Statement .gasprice := fun _ => rfl
theorem extcodesize : Statement .extcodesize := fun _ => rfl
theorem extcodecopy : Statement .extcodecopy := fun _ => rfl
theorem returndatasize : Statement .returndatasize := fun _ => rfl
theorem returndatacopy : Statement .returndatacopy := fun _ => rfl
theorem extcodehash : Statement .extcodehash := fun _ => rfl
theorem blockhash : Statement .blockhash := fun _ => rfl
theorem coinbase : Statement .coinbase := fun _ => rfl
theorem timestamp : Statement .timestamp := fun _ => rfl
theorem number : Statement .number := fun _ => rfl
theorem difficulty : Statement .difficulty := fun _ => rfl
theorem gaslimit : Statement .gaslimit := fun _ => rfl
theorem unassigned46 : Statement .unassigned46 := fun _ => rfl
theorem unassigned47 : Statement .unassigned47 := fun _ => rfl
theorem unassigned48 : Statement .unassigned48 := fun _ => rfl
theorem unassigned49 : Statement .unassigned49 := fun _ => rfl
theorem unassigned4A : Statement .unassigned4A := fun _ => rfl
theorem unassigned4B : Statement .unassigned4B := fun _ => rfl
theorem unassigned4C : Statement .unassigned4C := fun _ => rfl
theorem unassigned4D : Statement .unassigned4D := fun _ => rfl
theorem unassigned4E : Statement .unassigned4E := fun _ => rfl
theorem unassigned4F : Statement .unassigned4F := fun _ => rfl
theorem pop : Statement .pop := fun _ => rfl
theorem mload : Statement .mload := fun _ => rfl
theorem mstore : Statement .mstore := fun _ => rfl
theorem mstore8 : Statement .mstore8 := fun _ => rfl
theorem sload : Statement .sload := fun _ => rfl
theorem sstore : Statement .sstore := fun _ => rfl
theorem jump : Statement .jump := fun _ => rfl
theorem jumpi : Statement .jumpi := fun _ => rfl
theorem pc : Statement .pc := fun _ => rfl
theorem msize : Statement .msize := fun _ => rfl
theorem gas : Statement .gas := fun _ => rfl
theorem jumpdest : Statement .jumpdest := fun _ => rfl
theorem unassigned5C : Statement .unassigned5C := fun _ => rfl
theorem unassigned5D : Statement .unassigned5D := fun _ => rfl
theorem unassigned5E : Statement .unassigned5E := fun _ => rfl
theorem unassigned5F : Statement .unassigned5F := fun _ => rfl
theorem push1 (imm : List Byte) : Statement (.push1 imm) := fun h => congrArg (· + 1) h
theorem push2 (imm : List Byte) : Statement (.push2 imm) := fun h => congrArg (· + 1) h
theorem push3 (imm : List Byte) : Statement (.push3 imm) := fun h => congrArg (· + 1) h
theorem push4 (imm : List Byte) : Statement (.push4 imm) := fun h => congrArg (· + 1) h
theorem push5 (imm : List Byte) : Statement (.push5 imm) := fun h => congrArg (· + 1) h
theorem push6 (imm : List Byte) : Statement (.push6 imm) := fun h => congrArg (· + 1) h
theorem push7 (imm : List Byte) : Statement (.push7 imm) := fun h => congrArg (· + 1) h
theorem push8 (imm : List Byte) : Statement (.push8 imm) := fun h => congrArg (· + 1) h
theorem push9 (imm : List Byte) : Statement (.push9 imm) := fun h => congrArg (· + 1) h
theorem push10 (imm : List Byte) : Statement (.push10 imm) := fun h => congrArg (· + 1) h
theorem push11 (imm : List Byte) : Statement (.push11 imm) := fun h => congrArg (· + 1) h
theorem push12 (imm : List Byte) : Statement (.push12 imm) := fun h => congrArg (· + 1) h
theorem push13 (imm : List Byte) : Statement (.push13 imm) := fun h => congrArg (· + 1) h
theorem push14 (imm : List Byte) : Statement (.push14 imm) := fun h => congrArg (· + 1) h
theorem push15 (imm : List Byte) : Statement (.push15 imm) := fun h => congrArg (· + 1) h
theorem push16 (imm : List Byte) : Statement (.push16 imm) := fun h => congrArg (· + 1) h
theorem push17 (imm : List Byte) : Statement (.push17 imm) := fun h => congrArg (· + 1) h
theorem push18 (imm : List Byte) : Statement (.push18 imm) := fun h => congrArg (· + 1) h
theorem push19 (imm : List Byte) : Statement (.push19 imm) := fun h => congrArg (· + 1) h
theorem push20 (imm : List Byte) : Statement (.push20 imm) := fun h => congrArg (· + 1) h
theorem push21 (imm : List Byte) : Statement (.push21 imm) := fun h => congrArg (· + 1) h
theorem push22 (imm : List Byte) : Statement (.push22 imm) := fun h => congrArg (· + 1) h
theorem push23 (imm : List Byte) : Statement (.push23 imm) := fun h => congrArg (· + 1) h
theorem push24 (imm : List Byte) : Statement (.push24 imm) := fun h => congrArg (· + 1) h
theorem push25 (imm : List Byte) : Statement (.push25 imm) := fun h => congrArg (· + 1) h
theorem push26 (imm : List Byte) : Statement (.push26 imm) := fun h => congrArg (· + 1) h
theorem push27 (imm : List Byte) : Statement (.push27 imm) := fun h => congrArg (· + 1) h
theorem push28 (imm : List Byte) : Statement (.push28 imm) := fun h => congrArg (· + 1) h
theorem push29 (imm : List Byte) : Statement (.push29 imm) := fun h => congrArg (· + 1) h
theorem push30 (imm : List Byte) : Statement (.push30 imm) := fun h => congrArg (· + 1) h
theorem push31 (imm : List Byte) : Statement (.push31 imm) := fun h => congrArg (· + 1) h
theorem push32 (imm : List Byte) : Statement (.push32 imm) := fun h => congrArg (· + 1) h
theorem dup1 : Statement .dup1 := fun _ => rfl
theorem dup2 : Statement .dup2 := fun _ => rfl
theorem dup3 : Statement .dup3 := fun _ => rfl
theorem dup4 : Statement .dup4 := fun _ => rfl
theorem dup5 : Statement .dup5 := fun _ => rfl
theorem dup6 : Statement .dup6 := fun _ => rfl
theorem dup7 : Statement .dup7 := fun _ => rfl
theorem dup8 : Statement .dup8 := fun _ => rfl
theorem dup9 : Statement .dup9 := fun _ => rfl
theorem dup10 : Statement .dup10 := fun _ => rfl
theorem dup11 : Statement .dup11 := fun _ => rfl
theorem dup12 : Statement .dup12 := fun _ => rfl
theorem dup13 : Statement .dup13 := fun _ => rfl
theorem dup14 : Statement .dup14 := fun _ => rfl
theorem dup15 : Statement .dup15 := fun _ => rfl
theorem dup16 : Statement .dup16 := fun _ => rfl
theorem swap1 : Statement .swap1 := fun _ => rfl
theorem swap2 : Statement .swap2 := fun _ => rfl
theorem swap3 : Statement .swap3 := fun _ => rfl
theorem swap4 : Statement .swap4 := fun _ => rfl
theorem swap5 : Statement .swap5 := fun _ => rfl
theorem swap6 : Statement .swap6 := fun _ => rfl
theorem swap7 : Statement .swap7 := fun _ => rfl
theorem swap8 : Statement .swap8 := fun _ => rfl
theorem swap9 : Statement .swap9 := fun _ => rfl
theorem swap10 : Statement .swap10 := fun _ => rfl
theorem swap11 : Statement .swap11 := fun _ => rfl
theorem swap12 : Statement .swap12 := fun _ => rfl
theorem swap13 : Statement .swap13 := fun _ => rfl
theorem swap14 : Statement .swap14 := fun _ => rfl
theorem swap15 : Statement .swap15 := fun _ => rfl
theorem swap16 : Statement .swap16 := fun _ => rfl
theorem log0 : Statement .log0 := fun _ => rfl
theorem log1 : Statement .log1 := fun _ => rfl
theorem log2 : Statement .log2 := fun _ => rfl
theorem log3 : Statement .log3 := fun _ => rfl
theorem log4 : Statement .log4 := fun _ => rfl
theorem unassignedA5 : Statement .unassignedA5 := fun _ => rfl
theorem unassignedA6 : Statement .unassignedA6 := fun _ => rfl
theorem unassignedA7 : Statement .unassignedA7 := fun _ => rfl
theorem unassignedA8 : Statement .unassignedA8 := fun _ => rfl
theorem unassignedA9 : Statement .unassignedA9 := fun _ => rfl
theorem unassignedAA : Statement .unassignedAA := fun _ => rfl
theorem unassignedAB : Statement .unassignedAB := fun _ => rfl
theorem unassignedAC : Statement .unassignedAC := fun _ => rfl
theorem unassignedAD : Statement .unassignedAD := fun _ => rfl
theorem unassignedAE : Statement .unassignedAE := fun _ => rfl
theorem unassignedAF : Statement .unassignedAF := fun _ => rfl
theorem unassignedB0 : Statement .unassignedB0 := fun _ => rfl
theorem unassignedB1 : Statement .unassignedB1 := fun _ => rfl
theorem unassignedB2 : Statement .unassignedB2 := fun _ => rfl
theorem unassignedB3 : Statement .unassignedB3 := fun _ => rfl
theorem unassignedB4 : Statement .unassignedB4 := fun _ => rfl
theorem unassignedB5 : Statement .unassignedB5 := fun _ => rfl
theorem unassignedB6 : Statement .unassignedB6 := fun _ => rfl
theorem unassignedB7 : Statement .unassignedB7 := fun _ => rfl
theorem unassignedB8 : Statement .unassignedB8 := fun _ => rfl
theorem unassignedB9 : Statement .unassignedB9 := fun _ => rfl
theorem unassignedBA : Statement .unassignedBA := fun _ => rfl
theorem unassignedBB : Statement .unassignedBB := fun _ => rfl
theorem unassignedBC : Statement .unassignedBC := fun _ => rfl
theorem unassignedBD : Statement .unassignedBD := fun _ => rfl
theorem unassignedBE : Statement .unassignedBE := fun _ => rfl
theorem unassignedBF : Statement .unassignedBF := fun _ => rfl
theorem unassignedC0 : Statement .unassignedC0 := fun _ => rfl
theorem unassignedC1 : Statement .unassignedC1 := fun _ => rfl
theorem unassignedC2 : Statement .unassignedC2 := fun _ => rfl
theorem unassignedC3 : Statement .unassignedC3 := fun _ => rfl
theorem unassignedC4 : Statement .unassignedC4 := fun _ => rfl
theorem unassignedC5 : Statement .unassignedC5 := fun _ => rfl
theorem unassignedC6 : Statement .unassignedC6 := fun _ => rfl
theorem unassignedC7 : Statement .unassignedC7 := fun _ => rfl
theorem unassignedC8 : Statement .unassignedC8 := fun _ => rfl
theorem unassignedC9 : Statement .unassignedC9 := fun _ => rfl
theorem unassignedCA : Statement .unassignedCA := fun _ => rfl
theorem unassignedCB : Statement .unassignedCB := fun _ => rfl
theorem unassignedCC : Statement .unassignedCC := fun _ => rfl
theorem unassignedCD : Statement .unassignedCD := fun _ => rfl
theorem unassignedCE : Statement .unassignedCE := fun _ => rfl
theorem unassignedCF : Statement .unassignedCF := fun _ => rfl
theorem unassignedD0 : Statement .unassignedD0 := fun _ => rfl
theorem unassignedD1 : Statement .unassignedD1 := fun _ => rfl
theorem unassignedD2 : Statement .unassignedD2 := fun _ => rfl
theorem unassignedD3 : Statement .unassignedD3 := fun _ => rfl
theorem unassignedD4 : Statement .unassignedD4 := fun _ => rfl
theorem unassignedD5 : Statement .unassignedD5 := fun _ => rfl
theorem unassignedD6 : Statement .unassignedD6 := fun _ => rfl
theorem unassignedD7 : Statement .unassignedD7 := fun _ => rfl
theorem unassignedD8 : Statement .unassignedD8 := fun _ => rfl
theorem unassignedD9 : Statement .unassignedD9 := fun _ => rfl
theorem unassignedDA : Statement .unassignedDA := fun _ => rfl
theorem unassignedDB : Statement .unassignedDB := fun _ => rfl
theorem unassignedDC : Statement .unassignedDC := fun _ => rfl
theorem unassignedDD : Statement .unassignedDD := fun _ => rfl
theorem unassignedDE : Statement .unassignedDE := fun _ => rfl
theorem unassignedDF : Statement .unassignedDF := fun _ => rfl
theorem unassignedE0 : Statement .unassignedE0 := fun _ => rfl
theorem unassignedE1 : Statement .unassignedE1 := fun _ => rfl
theorem unassignedE2 : Statement .unassignedE2 := fun _ => rfl
theorem unassignedE3 : Statement .unassignedE3 := fun _ => rfl
theorem unassignedE4 : Statement .unassignedE4 := fun _ => rfl
theorem unassignedE5 : Statement .unassignedE5 := fun _ => rfl
theorem unassignedE6 : Statement .unassignedE6 := fun _ => rfl
theorem unassignedE7 : Statement .unassignedE7 := fun _ => rfl
theorem unassignedE8 : Statement .unassignedE8 := fun _ => rfl
theorem unassignedE9 : Statement .unassignedE9 := fun _ => rfl
theorem unassignedEA : Statement .unassignedEA := fun _ => rfl
theorem unassignedEB : Statement .unassignedEB := fun _ => rfl
theorem unassignedEC : Statement .unassignedEC := fun _ => rfl
theorem unassignedED : Statement .unassignedED := fun _ => rfl
theorem unassignedEE : Statement .unassignedEE := fun _ => rfl
theorem unassignedEF : Statement .unassignedEF := fun _ => rfl
theorem create : Statement .create := fun _ => rfl
theorem call : Statement .call := fun _ => rfl
theorem callcode : Statement .callcode := fun _ => rfl
theorem ret : Statement .ret := fun _ => rfl
theorem delegatecall : Statement .delegatecall := fun _ => rfl
theorem create2 : Statement .create2 := fun _ => rfl
theorem unassignedF6 : Statement .unassignedF6 := fun _ => rfl
theorem unassignedF7 : Statement .unassignedF7 := fun _ => rfl
theorem unassignedF8 : Statement .unassignedF8 := fun _ => rfl
theorem unassignedF9 : Statement .unassignedF9 := fun _ => rfl
theorem staticcall : Statement .staticcall := fun _ => rfl
theorem unassignedFB : Statement .unassignedFB := fun _ => rfl
theorem unassignedFC : Statement .unassignedFC := fun _ => rfl
theorem revert : Statement .revert := fun _ => rfl
theorem invalid : Statement .invalid := fun _ => rfl
theorem suicide : Statement .suicide := fun _ => rfl

end Sys2Proof.Laws.EncodedLength
end

