-- ==== Sys2Proof/Machine/AluLoops.lean ====
section
/-! DEFINITION. The source's conceptual, repeated-operation algorithms of the arithmetic unit (41_alu.md R134, R138 to R143,
R150). They are no second definition of an operation (R137): they stand here so that claims can state that the unit's
results match them. -/

namespace Sys2Proof.Machine

/-- R134: the carry loop, at most `fuel` iterations: continue while a carry remains. -/
def addLoop : (fuel : Nat) → (x y : Word) → Word
  | 0, x, _ => x
  | fuel + 1, x, y => if auNe y (W 0) then addLoop fuel (auXor x y) (auShl (auAnd x y) 1#32) else x

/-- R138: the left operand added once per unit of the right one. -/
def mulLoop (a : Word) : (times : Nat) → Word
  | 0 => W 0
  | times + 1 => auAdd (mulLoop a times) a

/-- R139, R140: subtract the divisor while the dividend is at least as great; the quotient count and what is left. -/
def divLoop (b : Word) : (fuel : Nat) → (q : Nat) → (r : Word) → Nat × Word
  | 0, q, r => (q, r)
  | fuel + 1, q, r => if auGe r b then divLoop b fuel (q + 1) (auSub r b) else (q, r)

/-- R141: multiply by the base once per unit of the exponent, from 1. -/
def expLoop (a : Word) : (times : Nat) → Word
  | 0 => W 1
  | times + 1 => auMul (expLoop a times) a

/-- R142: one bit position of left shift on the byte view. -/
def shlByteStep (bs : List Byte) : List Byte :=
  (List.range wordBytes).map fun i =>
    if i < 31 then
      BitVec.ofNat 8 ((bs.getD i 0#8).toNat * 2 % 256 + (bs.getD (i + 1) 0#8).toNat / 128)
    else BitVec.ofNat 8 ((bs.getD 31 0#8).toNat * 2 % 256)

/-- R143: one bit position of right shift on the byte view. -/
def shrByteStep (bs : List Byte) : List Byte :=
  (List.range wordBytes).map fun i =>
    if i = 0 then BitVec.ofNat 8 ((bs.getD 0 0#8).toNat / 2)
    else BitVec.ofNat 8 ((bs.getD i 0#8).toNat / 2 + (bs.getD (i - 1) 0#8).toNat % 2 * 128)

/-- R142, R143: `n` single-bit shifts. -/
def repeatByteStep (f : List Byte → List Byte) : (n : Nat) → List Byte → List Byte
  | 0, bs => bs
  | n + 1, bs => repeatByteStep f n (f bs)

/-- R150: lexicographic comparison of byte sequences, most significant byte first: the first place where they differ
decides. -/
def lexLt : List Byte → List Byte → Bool
  | x :: xs, y :: ys => if x = y then lexLt xs ys else x.toNat < y.toNat
  | _, _ => false

end Sys2Proof.Machine
end

