-- ==== Sys2Proof/Machine/Ports.lean ====
section
/-! DEFINITION. The interfaces of the block's boundary (10_state.md R44): the AU port (R45), `construct` of the control port
(R47) and the inspect port (R49). `step` of the control port is `Machine.step`; the code, hash and DataSource ports are
`State.code`, `Config.hash` and `Config.fetchStorage`. -/

namespace Sys2Proof.Machine

/-! ## AU port (R45) -/

/-- A request names one operation of the unit (41_alu.md R132) and supplies its operands. -/
inductive AuRequest where
  | word (bs : List Byte)
  | add (a b : Word)
  | sub (a b : Word)
  | mul (a b : Word)
  | div (a b : Word)
  | mod (a b : Word)
  | exp (a e : Word)
  | shl (a : Word) (n : U32)
  | shr (a : Word) (n : U32)
  | and (a b : Word)
  | or (a b : Word)
  | xor (a b : Word)
  | not (a : Word)
  | lt (a b : Word)
  | gt (a b : Word)
  | eq (a b : Word)
  | ne (a b : Word)
  | le (a b : Word)
  | ge (a b : Word)
  | toU32 (w : Word)
  | toU32trunc (w : Word)
  | hexFull (w : Word)
  | hexMinNibble (w : Word)
  | hexMinByte (w : Word)
deriving DecidableEq, Repr

/-- A response: a Word, a Bool, a machine integer, a text as its characters, or an error indication. -/
inductive AuResponse where
  | word (w : Word)
  | bool (b : Bool)
  | u32 (n : Nat)
  | text (cs : List Char)
  | error (k : ErrorKind)
deriving DecidableEq, Repr

/-- A Word or an error indication, as a response. -/
def auRespond : Except ErrorKind Word → AuResponse
  | .ok w => .word w
  | .error k => .error k

/-- The unit: a pure function of the request (R45). -/
def auPort : AuRequest → AuResponse
  | .word bs => auRespond (auWord bs)
  | .add a b => .word (auAdd a b)
  | .sub a b => .word (auSub a b)
  | .mul a b => .word (auMul a b)
  | .div a b => auRespond (auDiv a b)
  | .mod a b => auRespond (auMod a b)
  | .exp a e => .word (auExp a e)
  | .shl a n => .word (auShl a n)
  | .shr a n => .word (auShr a n)
  | .and a b => .word (auAnd a b)
  | .or a b => .word (auOr a b)
  | .xor a b => .word (auXor a b)
  | .not a => .word (auNot a)
  | .lt a b => .bool (auLt a b)
  | .gt a b => .bool (auGt a b)
  | .eq a b => .bool (auEq a b)
  | .ne a b => .bool (auNe a b)
  | .le a b => .bool (auLe a b)
  | .ge a b => .bool (auGe a b)
  | .toU32 w => match auToU32 w with
    | .ok n => .u32 n
    | .error k => .error k
  | .toU32trunc w => .u32 (auToU32trunc w)
  | .hexFull w => .text (auHexFull w)
  | .hexMinNibble w => .text (auHexMinNibble w)
  | .hexMinByte w => .text (auHexMinByte w)

/-! ## Control port: construct (R47) -/

/-- What the driver supplies: the code, an optional pre-seed storage map, the eight context registers (the scalar ones as
byte sequences, left-padded by the construction rule, R33), and the parameters of the build. -/
structure ConstructArgs where
  code : List Byte
  preseed : Option (List (Word × Word))
  sender : List Byte
  recipient : List Byte
  value : List Byte
  input : List Byte
  gasprice : List Byte
  gas : List Byte
  height : List Byte
  timestamp : List Byte
  params : Params
deriving DecidableEq, Repr

/-- The context registers of construction arguments, or the error of an over-long one (60_exceptions.md R441). -/
def ConstructArgs.context (a : ConstructArgs) : Except ErrorKind Context := do
  let sender ← auWord a.sender
  let recipient ← auWord a.recipient
  let value ← auWord a.value
  let gasprice ← auWord a.gasprice
  let gas ← auWord a.gas
  let height ← auWord a.height
  let timestamp ← auWord a.timestamp
  return { sender, recipient, value, input := a.input, gasprice, gas, height, timestamp }

/-- `construct` (R47, R480): the reset state of R481 with what the driver supplies; `none` when the request is refused and
no instance exists: a context scalar over 32 bytes, code over `CODE_MAX_LEN` (below 2^32), input of 2^32 bytes or more
(D40; log entry 20). -/
def construct (a : ConstructArgs) : Option State :=
  if a.code.length ≤ a.params.codeMaxLen ∧ a.code.length < 2 ^ 32 ∧ a.input.length < 2 ^ 32 then
    match a.context with
    | .ok ctx =>
      some { State.reset with
        code := a.code, ctx := ctx, params := a.params, storage := Storage.ofList (a.preseed.getD []) }
    | .error _ => none
  else none

/-! ## Inspect port (R49) -/

/-- What the driver reads between steps. -/
structure Inspection where
  run : Run
  pc : Nat
  stack : List Word
  msize : Nat
  mem : List Byte
  returndata : List Byte
  logs : List LogRecord
  reverted : Bool
  selfdestructed : Bool
deriving DecidableEq, Repr

/-- Inspection reads and changes nothing. After a fault only `run` means anything; the rest are free values. -/
def inspect (s : State) : Inspection :=
  { run := s.run, pc := s.pc, stack := s.stack, msize := s.mem.size, mem := s.mem.read 0 s.mem.size,
    returndata := s.returndata, logs := s.logs, reverted := s.reverted, selfdestructed := s.selfdestructed }

end Sys2Proof.Machine
end

