-- ==== Sys2Proof/Safety.lean ====
section
/-! DEFINITION. How a run ends, which states a run reaches, and the invariant of the states a run reaches, in the terms claims
use (40_dispatch.md R121, 10_state.md R30, R32, R40). -/

namespace Sys2Proof.Machine

/-- The end of a run: `run ≠ Running` (R121). -/
abbrev State.ended (s : State) : Prop := s.run ≠ .running

/-- A run ends successfully in `Halted(Stop)`, `Halted(Return, d)` or `Halted(Suicide)` (R121). -/
def State.endedSuccessfully (s : State) : Bool :=
  match s.run with
  | .halted .stop | .halted (.ret _) | .halted .suicide => true
  | .halted (.revert _) | .running | .faulted _ => false

/-- A run ends reverted in `Halted(Revert, d)` (R121). -/
def State.endedReverted (s : State) : Bool :=
  match s.run with
  | .halted (.revert _) => true
  | .halted .stop | .halted (.ret _) | .halted .suicide | .running | .faulted _ => false

/-- A run ends in error in `Faulted(K)` (R121). -/
def State.endedInError (s : State) : Bool :=
  match s.run with
  | .faulted _ => true
  | .halted _ | .running => false

/-- The state has not faulted, so its components mean something (R116). -/
abbrev State.intact (s : State) : Prop := s.endedInError = false

/-- `t` is reached from `s` by steps that each answer a next state. -/
inductive Reaches : State → State → Prop where
  | refl (s : State) : Reaches s s
  | step (s t u : State) (before : Reaches s t) (last : Sys2Proof.Machine.step t = .next u) : Reaches s u

/-- What the halt flags and the return data register hold in each run state that is not a fault (R30, R32): the flags and
the register are set exactly by the halt that sets them. -/
def State.haltAgrees (s : State) : Prop :=
  match s.run with
  | .running => s.reverted = false ∧ s.selfdestructed = false ∧ s.returndata = []
  | .halted .stop => s.reverted = false ∧ s.selfdestructed = false ∧ s.returndata = []
  | .halted (.ret d) => s.reverted = false ∧ s.selfdestructed = false ∧ s.returndata = d
  | .halted (.revert d) => s.reverted = true ∧ s.selfdestructed = false ∧ s.returndata = d
  | .halted .suicide => s.reverted = false ∧ s.selfdestructed = true ∧ s.returndata = []
  | .faulted _ => True

/-- The invariant of the states a run reaches (R40, with R21, R23, R30, R32, R37, R62, R68, R70, R119), beside the canonical
forms of memory and storage, which hold after a fault too. -/
structure State.Inv (s : State) : Prop where
  memCanonical : s.mem.wf
  storageCanonical : s.storage.wf
  codeLength : s.code.length < 2 ^ 32
  inputLength : s.ctx.input.length < 2 ^ 32
  pcInCode : s.intact → s.pc ≤ s.code.length
  memGranular : s.intact → s.mem.size % memGranule = 0
  topicsBounded : s.intact → ∀ r ∈ s.logs, r.topics.length ≤ maxTopics
  haltState : s.haltAgrees
  stackWithinCapacity : s.intact → stackFits s.params s.stack.length = true
  memWithinCapacity : s.intact → memFits s.params s.mem.size = true

end Sys2Proof.Machine
end

