-- ==== Sys2Proof/Certificates/Slice0/Obligations.lean ====
section
/-! DEFINITION. The statements for the provers. A next state is written `{ s with … }`: every component not named in it is as
before, which is the statement's frame. -/

namespace Sys2Proof.Claims

open Sys2Proof.Machine

/-- The value of the `n` bytes `b 0` .. `b (n−1)`, most significant first: `Σ_k b_k · 256^(n−1−k)` (00_scope.md R8,
30_encoding.md R93). -/
def bigEndian (n : Nat) (b : Nat → Byte) : Nat := ((List.range n).map fun k => (b k).toNat * 256 ^ (n - 1 - k)).sum

/-- Byte `i` of a Word, 0 = most significant: `val(w) div 256^(31−i) mod 256`. -/
def wordByte (w : Word) (i : Nat) : Byte := BitVec.ofNat 8 (w.toNat / 256 ^ (31 - i))

/-- `n` rounded up to a multiple of 32. -/
def granules (n : Nat) : Nat := 32 * ((n + 31) / 32)

/-- The memory length after `cover(o, n)`. -/
def coveredSize (s : State) (o n : Nat) : Nat :=
  if 0 < n ∨ s.params.zeroSizeExpands = true then max s.mem.size (granules (o + n)) else s.mem.size

/-- Memory expanded by `cover(o, n)`: a new length, no byte changed. -/
def covered (s : State) (o n : Nat) : Memory := { s.mem with size := coveredSize s o n }

/-- The bytes `mem[o]` .. `mem[o+n−1]`. -/
def slice (s : State) (o n : Nat) : List Byte := (List.range n).map fun i => s.mem.byte (o + i)

/-- `cover(o, n)` has room: where it makes memory longer (never for `n = 0` under `ZERO_SIZE_EXPANDS = false`), a finite
`MEM_CAPACITY`, if there is one, holds the new length. -/
abbrev roomInMemory (s : State) (o n : Nat) : Prop :=
  s.mem.size < coveredSize s o n → memFits s.params (coveredSize s o n) = true

/-- The offset and the size of the memory access an instruction makes with these stack entries (20_memory.md R65,
44_memory_ops.md R213, R223), if it makes one and its conversions succeed. -/
def accessRange : Instr → List Word → Option (Nat × Nat)
  | .mload, offset :: _ | .mstore, offset :: _ :: _ => (auToU32 offset).toOption.map fun o => (o, 32)
  | .mstore8, offset :: _ :: _ => (auToU32 offset).toOption.map fun o => (o, 1)
  | .sha3, offset :: size :: _ | .ret, offset :: size :: _ | .revert, offset :: size :: _ | .log0, offset :: size :: _
  | .log1, offset :: size :: _ | .log2, offset :: size :: _ | .log3, offset :: size :: _ | .log4, offset :: size :: _ =>
    (auToU32 offset).toOption.bind fun o => (auToU32 size).toOption.map fun n => (o, n)
  | .codecopy, dest :: codeOffset :: length :: _ =>
    (auToU32 dest).toOption.bind fun d => (auToU32 codeOffset).toOption.bind fun _ =>
      (auToU32 length).toOption.map fun n => (d, n)
  | _, _ => none

/-- A finite stack capacity, if there is one, holds this many entries. -/
abbrev roomOnStack (s : State) (depth : Nat) : Prop := stackFits s.params depth = true

/-- A two-operand instruction: both popped, `f a b` pushed with `a` the first popped, `pc` advanced by 1, nothing else
changed; with fewer than two entries `StackUnderflow`. -/
def twoOperand (i : Instr) (f : Word → Word → Word) : Prop :=
  ∀ s : State,
    (∀ a b rest, s.stack = a :: b :: rest → roomOnStack s (rest.length + 1) →
      exec i s = .next { s with stack := f a b :: rest, pc := s.pc + 1 }) ∧
    (s.stack.length < 2 → exec i s = raise .stackUnderflow s)

/-- A one-operand instruction with a result. -/
def oneOperand (i : Instr) (f : Word → Word) : Prop :=
  ∀ s : State,
    (∀ a rest, s.stack = a :: rest → roomOnStack s (rest.length + 1) →
      exec i s = .next { s with stack := f a :: rest, pc := s.pc + 1 }) ∧
    (s.stack = [] → exec i s = raise .stackUnderflow s)

/-- A three-operand instruction whose result may depend on the run's parameters. -/
def threeOperand (i : Instr) (f : Params → Word → Word → Word → Word) : Prop :=
  ∀ s : State,
    (∀ a b m rest, s.stack = a :: b :: m :: rest → roomOnStack s (rest.length + 1) →
      exec i s = .next { s with stack := f s.params a b m :: rest, pc := s.pc + 1 }) ∧
    (s.stack.length < 3 → exec i s = raise .stackUnderflow s)

/-- An instruction that pops nothing and pushes a value read from the state: it completes whenever the stack has room. -/
def pureRead (i : Instr) (f : State → Word) : Prop :=
  ∀ s : State, roomOnStack s (s.stack.length + 1) →
    exec i s = .next { s with stack := f s :: s.stack, pc := s.pc + 1 }

/-- An outcome with its next state, if it has one, replaced. -/
def mapNext (f : State → State) : Out → Out
  | .next t => .next (f t)
  | .fault r => .fault r
  | .refused r => .refused r

/-- The 32 opcodes with a mnemonic that do not execute (49_unsupported.md sections 1 and 2). -/
def namedUnsupported : List Instr :=
  [.sdiv, .smod, .signextend, .slt, .sgt, .byte, .shl, .shr, .sar, .balance, .calldatacopy, .codesize,
   .gasprice, .extcodesize, .extcodecopy, .returndatasize, .returndatacopy, .extcodehash, .blockhash,
   .coinbase, .timestamp, .number, .difficulty, .gaslimit, .gas, .create, .call, .callcode, .delegatecall,
   .create2, .staticcall, .invalid]

/-- The 116 byte values without a mnemonic (49_unsupported.md section 3). -/
def unassignedLow : List Instr :=
  [.unassigned0C, .unassigned0D, .unassigned0E, .unassigned0F, .unassigned1E, .unassigned1F, .unassigned21,
   .unassigned22, .unassigned23, .unassigned24, .unassigned25, .unassigned26, .unassigned27, .unassigned28,
   .unassigned29, .unassigned2A, .unassigned2B, .unassigned2C, .unassigned2D, .unassigned2E, .unassigned2F,
   .unassigned46, .unassigned47, .unassigned48, .unassigned49, .unassigned4A, .unassigned4B, .unassigned4C,
   .unassigned4D, .unassigned4E, .unassigned4F, .unassigned5C, .unassigned5D, .unassigned5E, .unassigned5F,
   .unassignedA5, .unassignedA6, .unassignedA7, .unassignedA8, .unassignedA9, .unassignedAA, .unassignedAB,
   .unassignedAC, .unassignedAD, .unassignedAE, .unassignedAF, .unassignedB0, .unassignedB1, .unassignedB2,
   .unassignedB3, .unassignedB4, .unassignedB5, .unassignedB6, .unassignedB7, .unassignedB8, .unassignedB9,
   .unassignedBA, .unassignedBB]

/-- The rest of them. -/
def unassignedHigh : List Instr :=
  [.unassignedBC, .unassignedBD, .unassignedBE, .unassignedBF, .unassignedC0, .unassignedC1, .unassignedC2,
   .unassignedC3, .unassignedC4, .unassignedC5, .unassignedC6, .unassignedC7, .unassignedC8, .unassignedC9,
   .unassignedCA, .unassignedCB, .unassignedCC, .unassignedCD, .unassignedCE, .unassignedCF, .unassignedD0,
   .unassignedD1, .unassignedD2, .unassignedD3, .unassignedD4, .unassignedD5, .unassignedD6, .unassignedD7,
   .unassignedD8, .unassignedD9, .unassignedDA, .unassignedDB, .unassignedDC, .unassignedDD, .unassignedDE,
   .unassignedDF, .unassignedE0, .unassignedE1, .unassignedE2, .unassignedE3, .unassignedE4, .unassignedE5,
   .unassignedE6, .unassignedE7, .unassignedE8, .unassignedE9, .unassignedEA, .unassignedEB, .unassignedEC,
   .unassignedED, .unassignedEE, .unassignedEF, .unassignedF6, .unassignedF7, .unassignedF8, .unassignedF9,
   .unassignedFB, .unassignedFC]

/-- PUSH1 to PUSH32 with their `n`. -/
def pushes : List (Nat × (List Byte → Instr)) :=
  [(1, .push1), (2, .push2), (3, .push3), (4, .push4), (5, .push5), (6, .push6), (7, .push7), (8, .push8),
   (9, .push9), (10, .push10), (11, .push11), (12, .push12), (13, .push13), (14, .push14), (15, .push15),
   (16, .push16), (17, .push17), (18, .push18), (19, .push19), (20, .push20), (21, .push21), (22, .push22),
   (23, .push23), (24, .push24), (25, .push25), (26, .push26), (27, .push27), (28, .push28), (29, .push29),
   (30, .push30), (31, .push31), (32, .push32)]

/-- DUP1 to DUP16 with their `n`. -/
def dups : List (Nat × Instr) :=
  [(1, .dup1), (2, .dup2), (3, .dup3), (4, .dup4), (5, .dup5), (6, .dup6), (7, .dup7), (8, .dup8), (9, .dup9),
   (10, .dup10), (11, .dup11), (12, .dup12), (13, .dup13), (14, .dup14), (15, .dup15), (16, .dup16)]

/-- SWAP1 to SWAP16 with their `n`. -/
def swaps : List (Nat × Instr) :=
  [(1, .swap1), (2, .swap2), (3, .swap3), (4, .swap4), (5, .swap5), (6, .swap6), (7, .swap7), (8, .swap8),
   (9, .swap9), (10, .swap10), (11, .swap11), (12, .swap12), (13, .swap13), (14, .swap14), (15, .swap15),
   (16, .swap16)]

/-- LOG0 to LOG4 with their topic count. -/
def logInstrs : List (Nat × Instr) := [(0, .log0), (1, .log1), (2, .log2), (3, .log3), (4, .log4)]

/-- The instructions that expand memory (20_memory.md R60, R65). -/
def memoryInstrs : List Instr :=
  [.mload, .mstore, .mstore8, .sha3, .log0, .log1, .log2, .log3, .log4, .codecopy, .ret, .revert]

/-- The instructions that convert an offset, a size or a destination (60_exceptions.md R448). -/
def convertingInstrs : List Instr :=
  [.mload, .mstore, .mstore8, .sha3, .log0, .log1, .log2, .log3, .log4, .codecopy, .calldataload, .jump, .jumpi, .ret,
   .revert]

/-- The executing instructions, PUSH apart, that read no stack entry. -/
def operandFreeInstrs : List Instr :=
  [.address, .origin, .caller, .callvalue, .calldatasize, .pc, .msize, .jumpdest, .stop]

end Sys2Proof.Claims

open Sys2Proof Sys2Proof.Machine Sys2Proof.Claims

/-! ## Encoding -/

/-- The five byte values the source attests (30_encoding.md R96) and some taken from the opcode map (D22), written out. -/
def Obligations.WrittenOutWordsDecode : Prop :=
  decode [0x01#8] = .ok (.add, []) ∧
  decode [0x5b#8, 0x00#8] = .ok (.jumpdest, [0x00#8]) ∧
  decode [0x60#8, 0x05#8, 0x60#8] = .ok (.push1 [0x05#8], [0x60#8]) ∧
  decode [0x80#8] = .ok (.dup1, []) ∧
  decode [0xf3#8] = .ok (.ret, []) ∧
  decode [0x03#8] = .ok (.sub, []) ∧
  decode [0x14#8] = .ok (.eq, []) ∧
  decode [0x52#8] = .ok (.mstore, []) ∧
  decode [0x36#8] = .ok (.calldatasize, []) ∧
  decode [0x55#8] = .ok (.sstore, []) ∧
  decode [0x9f#8] = .ok (.swap16, []) ∧
  decode [0x61#8, 0x01#8, 0x02#8, 0x01#8] = .ok (.push2 [0x01#8, 0x02#8], [0x01#8]) ∧
  decode [0x0c#8] = .ok (.unassigned0C, [])

/-- Decoding the encoding of a well-formed instruction, whatever follows it, gives the instruction back. -/
def Obligations.DecodeUndoesEncode : Prop :=
  ∀ (i : Instr) (rest : List Byte), i.WellFormed → decode (encode i ++ rest) = .ok (i, rest)

/-- Encoding what was decoded gives the bytes back: each byte sequence has one meaning and no bit is dropped. -/
def Obligations.EncodeUndoesDecode : Prop :=
  ∀ (bs rest : List Byte) (i : Instr), decode bs = .ok (i, rest) → encode i ++ rest = bs

/-! ## The step -/

/-- Where the bytes at the program counter decode to `i`, a step of a running machine is `exec i`, at the same state: fetch
changes nothing (40_dispatch.md R110, R111). -/
def Obligations.StepRunsTheDecodedInstruction : Prop :=
  ∀ (s : State) (i : Instr) (rest : List Byte),
    s.run = .running → decode (s.code.drop s.pc) = .ok (i, rest) → step s = exec i s

/-- R111: fetch reads the byte at `pc`; at or past the end of the code it raises `NoMoreInstructions`. -/
def Obligations.FetchReadsTheByteAtPcOrFaults : Prop :=
  ∀ s : State, s.run = .running →
    (s.code.length ≤ s.pc → step s = raise .noMoreInstructions s) ∧
    (∀ op, s.code[s.pc]? = some op → step s = exec (decodeInstr op (s.code.drop (s.pc + 1))).1 s)

/-- A step request in a terminal state changes nothing (40_dispatch.md R121; the spec's decision D24, log entry 21). -/
def Obligations.TerminalStatesTakeNoStep : Prop := ∀ s : State, s.ended → step s = .next s

/-- R113: a byte that is not one of the 108 executing ones raises `UnsupportedInstruction`, whatever the stack holds. -/
def Obligations.NonExecutingByteRaisesUnsupported : Prop :=
  ∀ (s : State) (op : Byte) (following : List Byte),
    s.run = .running → s.code.drop s.pc = op :: following → (decodeInstr op following).1.executes = false →
    step s = raise .unsupportedInstruction s

/-- R380, for each of the 148 instructions by name: its effect is that fault and nothing else. -/
def Obligations.UnsupportedInstructionsRaise : Prop :=
  ∀ i ∈ namedUnsupported ++ unassignedLow ++ unassignedHigh, ∀ s : State,
    exec i s = .next (faultState .unsupportedInstruction s)

/-- `raise K` (40_dispatch.md R116, R121, D23, D24; log entry 1): the next state is `Faulted(K)` under the same run parameters,
and it is terminal. -/
def Obligations.FaultRecordsItsKindAndIsTerminal : Prop :=
  ∀ (k : ErrorKind) (s : State),
    ∃ t, raise k s = .next t ∧ t.run = .faulted k ∧ t.code = s.code ∧ t.ctx = s.ctx ∧ t.params = s.params ∧
      step t = .next t

/-- No step is refused: every instruction has its meaning and every memory access is covered first (20_memory.md R65;
93_implementation_defined.md I10). -/
def Obligations.NoStepIsRefused : Prop := ∀ (s : State) (r : Refusal), step s ≠ .refused r

/-- A step is stuck only beyond a finite capacity (40_dispatch.md R119; log entry 9) or where the DataSource does not answer
the fetch of an absent key (93_implementation_defined.md I3; log entry 8): the machine runs an instruction `i`, and either one
more stack entry than now does not fit, or the range `i` covers makes memory longer than fits, or `i` is SLOAD, the key on top
is absent and its request has no answer. -/
def Obligations.StuckOnlyBeyondCapacityOrUnanswered : Prop :=
  ∀ (s : State) (f : Fault), step s = .fault f →
    s.run = .running ∧ ∃ i following, decode (s.code.drop s.pc) = .ok (i, following) ∧
      ((f = .stackCapacityExceeded ∧ ¬ roomOnStack s (s.stack.length + 1)) ∨
       (f = .memCapacityExceeded ∧ ∃ o n, accessRange i s.stack = some (o, n) ∧ ¬ roomInMemory s o n) ∨
       (f = .dataSourceNeverAnswers ∧ i = .sload ∧ ∃ key rest, s.stack = key :: rest ∧ s.storage.find key = none ∧
         Config.fetchStorage s.freeIndex (fetchRequest s key) = .noAnswer))

/-- Beyond a finite capacity the machine is stuck (40_dispatch.md R119, the spec's decision D11; log entry 9): the instructions
that grow the stack, and those that expand memory, a zero-size access under `ZERO_SIZE_EXPANDS = true` among them. -/
def Obligations.BeyondCapacityTheMachineIsStuck : Prop :=
  ∀ s : State,
    (¬ roomOnStack s (s.stack.length + 1) →
      (∀ i ∈ [Instr.address, .origin, .caller, .callvalue, .calldatasize, .pc, .msize],
        exec i s = .fault .stackCapacityExceeded) ∧
      (∀ p ∈ pushes, ∀ imm : List Byte, imm.length = p.1 → s.pc + p.1 < s.code.length →
        exec (p.2 imm) s = .fault .stackCapacityExceeded) ∧
      (∀ p ∈ dups, p.1 ≤ s.stack.length → exec p.2 s = .fault .stackCapacityExceeded)) ∧
    (∀ offset rest o, s.stack = offset :: rest → auToU32 offset = .ok o → ¬ roomInMemory s o 32 →
      exec .mload s = .fault .memCapacityExceeded) ∧
    (∀ offset value rest o, s.stack = offset :: value :: rest → auToU32 offset = .ok o →
      (¬ roomInMemory s o 32 → exec .mstore s = .fault .memCapacityExceeded) ∧
      (¬ roomInMemory s o 1 → exec .mstore8 s = .fault .memCapacityExceeded)) ∧
    (∀ offset size rest o n, s.stack = offset :: size :: rest → auToU32 offset = .ok o → auToU32 size = .ok n →
      ¬ roomInMemory s o n →
      ∀ i ∈ [Instr.sha3, .ret, .revert, .log0, .log1, .log2, .log3, .log4], exec i s = .fault .memCapacityExceeded) ∧
    (∀ dest codeOffset length rest d c n, s.stack = dest :: codeOffset :: length :: rest → auToU32 dest = .ok d →
      auToU32 codeOffset = .ok c → auToU32 length = .ok n → ¬ roomInMemory s d n →
      exec .codecopy s = .fault .memCapacityExceeded)

/-- Which instruction can end in which fault (60_exceptions.md R440 to R448, R456; the spec's decisions D8, D13): the unit's
errors are no outcome of a step, `UnsupportedInstruction` is the fault of exactly the bytes without a behaviour, and each
other kind has its raisers. -/
def Obligations.EachFaultKindHasItsInstructions : Prop :=
  (∀ s t : State, s.run = .running → step s = .next t →
    t.run ≠ .faulted .constructionOverflow ∧ t.run ≠ .faulted .divisionByZero) ∧
  (∀ (i : Instr) (s t : State) (k : ErrorKind),
    s.run = .running → i.immediate.length ≤ 32 → exec i s = .next t → t.run = .faulted k →
    (k = .unsupportedInstruction ↔ i.executes = false) ∧
    (k = .noMoreInstructions → ∃ p ∈ pushes, ∃ imm, i = p.2 imm) ∧
    (k = .invalidJumpDestination → i = .jump ∨ i = .jumpi) ∧
    (k = .dataSourceFailure → i = .sload) ∧
    (k = .conversionOverflow → i ∈ convertingInstrs) ∧
    (k = .stackUnderflow → i ∉ operandFreeInstrs ∧ ∀ p ∈ pushes, ∀ imm, i ≠ p.2 imm))

/-! ## Invariants and whole-machine rules -/

/-- The state after reset (70_reset_and_hazards.md R481) meets the invariant. What stands in code and context registers is the
model's choice, log entries 5 and 6; the canonical forms of memory and storage are its representation, log entries 11 and 14,
and the capacity clauses follow log entry 9. -/
def Obligations.ResetMeetsTheInvariant : Prop := State.reset.Inv

/-- Every step keeps the invariant: the spec's (10_state.md R40, with R21, R30, R32, R33, R37; 20_memory.md R62, R68; D12, D19)
together with clauses of the model's own: the canonical forms of memory and storage are its representation, log entries 11 and
14 (DESIGN CHOICE), and that the finite capacities hold is its reading of 40_dispatch.md R119 and D11, log entry 9. -/
def Obligations.EveryStepKeepsTheInvariant : Prop := ∀ s t : State, s.Inv → step s = .next t → t.Inv

/-- Construction (10_state.md R47, 70_reset_and_hazards.md R481): the request is granted exactly within the bounds of D40, and
the instance is in the reset state with what the driver supplied. The context scalars are left-padded (R33). The present keys
are exactly those the pre-seed lists, each with its value; of two pairs with one key the later one counts, and the cache is in
canonical form, which are the model's choice, log entry 14. -/
def Obligations.ConstructGivesTheResetState : Prop :=
  ∀ a : ConstructArgs,
    ((construct a).isSome ↔
      a.code.length ≤ a.params.codeMaxLen ∧ a.code.length < 2 ^ 32 ∧ a.input.length < 2 ^ 32 ∧
      ∀ bs ∈ [a.sender, a.recipient, a.value, a.gasprice, a.gas, a.height, a.timestamp], bs.length ≤ 32) ∧
    ∀ s, construct a = some s →
      s.run = .running ∧ s.pc = 0 ∧ s.stack = [] ∧ s.mem.size = 0 ∧ (∀ x, s.mem.byte x = 0#8) ∧ s.logs = [] ∧
      s.reverted = false ∧ s.selfdestructed = false ∧ s.returndata = [] ∧ s.code = a.code ∧ s.params = a.params ∧
      s.storage.wf ∧
      (∀ before key v after, a.preseed.getD [] = before ++ (key, v) :: after → (∀ p ∈ after, p.1 ≠ key) →
        s.storage.find key = some v) ∧
      (∀ key, (∀ p ∈ a.preseed.getD [], p.1 ≠ key) → s.storage.find key = none) ∧
      s.ctx.input = a.input ∧
      s.ctx.sender = W (bigEndian a.sender.length fun k => a.sender.getD k 0#8) ∧
      s.ctx.recipient = W (bigEndian a.recipient.length fun k => a.recipient.getD k 0#8) ∧
      s.ctx.value = W (bigEndian a.value.length fun k => a.value.getD k 0#8) ∧
      s.ctx.gasprice = W (bigEndian a.gasprice.length fun k => a.gasprice.getD k 0#8) ∧
      s.ctx.gas = W (bigEndian a.gas.length fun k => a.gas.getD k 0#8) ∧
      s.ctx.height = W (bigEndian a.height.length fun k => a.height.getD k 0#8) ∧
      s.ctx.timestamp = W (bigEndian a.timestamp.length fun k => a.timestamp.getD k 0#8)

/-- The parameters of a run are written by no step (10_state.md section 1; 20_memory.md R68). -/
def Obligations.NoStepWritesTheRunParameters : Prop :=
  ∀ s t : State, step s = .next t → t.code = s.code ∧ t.ctx = s.ctx ∧ t.params = s.params

/-- Memory grows only forward, by whole units, and only the memory instructions grow it (20_memory.md R62); only MSTORE,
MSTORE8 and CODECOPY change what an address reads as (20_memory.md R60). -/
def Obligations.MemoryChangesOnlyByItsInstructions : Prop :=
  ∀ (i : Instr) (s t : State), exec i s = .next t → t.intact →
    s.mem.size ≤ t.mem.size ∧
    (s.mem.size % 32 = 0 → t.mem.size % 32 = 0) ∧
    (i ∉ memoryInstrs → t.mem = s.mem) ∧
    (i ∉ [.mstore, .mstore8, .codecopy] → ∀ a, t.mem.byte a = s.mem.byte a)

/-- A key once present stays present (10_state.md R36); only SLOAD and SSTORE write the cache, and SLOAD changes no present
key's value. -/
def Obligations.PresentKeysStayPresent : Prop :=
  ∀ (i : Instr) (s t : State), exec i s = .next t → t.intact →
    (∀ key, s.storage.find key ≠ none → t.storage.find key ≠ none) ∧
    (i ≠ .sload → i ≠ .sstore → t.storage = s.storage) ∧
    (i = .sload → ∀ key v, s.storage.find key = some v → t.storage.find key = some v)

/-- The log sink is append-only, and only LOG0 to LOG4 append, one record of at most four topics (10_state.md R37). -/
def Obligations.LogSinkIsAppendOnly : Prop :=
  ∀ (i : Instr) (s t : State), exec i s = .next t → t.intact →
    (i ∈ logInstrs.map Prod.snd → ∃ r, t.logs = s.logs ++ [r] ∧ r.topics.length ≤ 4) ∧
    (i ∉ logInstrs.map Prod.snd → t.logs = s.logs)

/-- The halt flags and the return data register are written only by their instructions (10_state.md R30, R32). -/
def Obligations.HaltFlagsHaveOneWriter : Prop :=
  ∀ (i : Instr) (s t : State), exec i s = .next t → t.intact →
    (i ≠ .revert → t.reverted = s.reverted) ∧
    (i ≠ .suicide → t.selfdestructed = s.selfdestructed) ∧
    (i ∉ [.stop, .ret, .revert] → t.returndata = s.returndata)

/-- The transitions of the run-state register (10_state.md R29): a running machine stays running, or halts by the one
instruction of that halt, or faults. -/
def Obligations.RunStateTransitions : Prop :=
  ∀ (i : Instr) (s t : State), s.run = .running → exec i s = .next t →
    (t.run = .running ∧ i ∉ [.stop, .ret, .revert, .suicide]) ∨
    (t.run = .halted .stop ∧ i = .stop) ∨
    (∃ d, t.run = .halted (.ret d) ∧ i = .ret ∧ t.returndata = d) ∨
    (∃ d, t.run = .halted (.revert d) ∧ i = .revert ∧ t.returndata = d) ∨
    (t.run = .halted .suicide ∧ i = .suicide) ∨
    ∃ k, t.run = .faulted k

/-- `ctx.gasprice`, `ctx.gas` and `ctx.timestamp` are read by no opcode and `ctx.height` only by SLOAD's fetch request
(10_state.md R33): a step, and every other instruction, does the same whatever they hold. The two runs compared draw the same
free values: that equal positions of the counter give equal draws is the model's choice, log entries 1 and 8. -/
def Obligations.UnreadRegistersDoNotInfluenceAStep : Prop :=
  (∀ (s : State) (gasprice gas timestamp : Word),
    let put := fun t : State =>
      { t with ctx := { t.ctx with gasprice := gasprice, gas := gas, timestamp := timestamp } }
    step (put s) = mapNext put (step s)) ∧
  (∀ (i : Instr) (s : State) (height : Word), i ≠ .sload →
    let put := fun t : State => { t with ctx := { t.ctx with height := height } }
    exec i (put s) = mapNext put (exec i s))

/-! ## The stack and memory primitives -/

/-- R24 to R28: push, pop, peek, set, swapTop, each with the fault it raises. The room a push needs is a finite
`STACK_CAPACITY`'s, if there is one. -/
def Obligations.StackPrimitives : Prop :=
  ∀ s : State,
    (∀ v k, roomOnStack s (s.stack.length + 1) → push v s k = k { s with stack := v :: s.stack }) ∧
    (∀ k, s.stack = [] → pop s k = raise .stackUnderflow s) ∧
    (∀ v rest k, s.stack = v :: rest → pop s k = k v { s with stack := rest }) ∧
    (∀ i k, s.stack.length ≤ i → peek i s k = raise .stackUnderflow s) ∧
    (∀ i v k, s.stack[i]? = some v → peek i s k = k v) ∧
    (∀ i v k, s.stack.length ≤ i → setEntry i v s k = raise .stackUnderflow s) ∧
    (∀ i v k, i < s.stack.length → setEntry i v s k = k { s with stack := s.stack.set i v }) ∧
    (∀ i k, s.stack.length ≤ i → swapTop i s k = raise .stackUnderflow s) ∧
    (∀ t mid v rest k, s.stack = t :: (mid ++ v :: rest) →
      swapTop (mid.length + 1) s k = k { s with stack := v :: (mid ++ t :: rest) }) ∧
    (∀ k, s.stack ≠ [] → swapTop 0 s k = k s)

/-- R64: `expand(n)` makes the length the next multiple of 32 at or above `n` unless it is that long already, changes no byte,
appends zero bytes, keeps the length a multiple of 32, and changes nothing when `n ≤ msize`. Where memory grows, a finite
capacity has room (40_dispatch.md R119, D11; log entry 9). The canonical form, and what the model reads past the length, are its
representation of memory, log entry 11. -/
def Obligations.ExpandRoundsUpAndNeverShrinks : Prop :=
  ∀ (n : Nat) (s : State), s.mem.wf → (s.mem.size < granules n → memFits s.params (granules n) = true) →
    ∃ m : Memory, (∀ k, expand n s k = k { s with mem := m }) ∧
      m.wf ∧ m.size = max s.mem.size (granules n) ∧ n ≤ m.size ∧
      (∀ a, m.byte a = s.mem.byte a) ∧
      (∀ a, s.mem.size ≤ a → m.byte a = 0#8) ∧
      (s.mem.size % 32 = 0 → m.size % 32 = 0) ∧
      (s.mem.size % 32 = 0 → n ≤ s.mem.size → m = s.mem)

/-- R66, R67: a write of `bs` at `o` changes the bytes of its range to `bs` and no other byte and not the length; a read gives
the bytes of its range, lowest address first. The canonical form is the model's representation of memory, log entry 11. -/
def Obligations.MemoryReadAfterWrite : Prop :=
  ∀ (m : Memory) (o : Nat) (bs : List Byte), m.wf → o + bs.length ≤ m.size →
    (m.write o bs).wf ∧ (m.write o bs).size = m.size ∧
    (∀ i, (h : i < bs.length) → (m.write o bs).byte (o + i) = bs[i]) ∧
    (∀ a, a < o ∨ o + bs.length ≤ a → (m.write o bs).byte a = m.byte a) ∧
    (m.write o bs).read o bs.length = bs ∧
    (∀ addr n, m.read addr n = (List.range n).map fun i => m.byte (addr + i))

/-- The canonical form (log entry 11): memories of one length that read the same everywhere are equal data. -/
def Obligations.CanonicalMemoriesAreEqualData : Prop :=
  ∀ m m' : Memory, m.wf → m'.wf → m.size = m'.size → (∀ a, m.byte a = m'.byte a) → m = m'

/-! ## The arithmetic unit -/

/-- R130, R131: a Word is its 32 big-endian bytes; construction left-pads with zero bytes and fails beyond 32. -/
def Obligations.WordConstructionLeftPads : Prop :=
  (∀ w : Word, (auBytes32 w).length = 32 ∧ auWord (auBytes32 w) = .ok w ∧
    w.toNat = bigEndian 32 fun i => (auBytes32 w).getD i 0#8) ∧
  (∀ bs : List Byte, bs.length ≤ 32 →
    ∃ w, auWord bs = .ok w ∧ auBytes32 w = List.replicate (32 - bs.length) 0#8 ++ bs ∧
      w.toNat = bigEndian bs.length fun k => bs.getD k 0#8) ∧
  (∀ bs : List Byte, 32 < bs.length → auWord bs = .error .constructionOverflow)

/-- R133, R135, R136: addition and subtraction wrap modulo 2^256, and the laws the source states. -/
def Obligations.AdditionAndSubtractionWrap : Prop :=
  ∀ a b c : Word,
    (auAdd a b).toNat = (a.toNat + b.toNat) % 2 ^ 256 ∧
    (auSub a b).toNat = (if b.toNat ≤ a.toNat then a.toNat - b.toNat else a.toNat + 2 ^ 256 - b.toNat) ∧
    auSub a b = auAdd a (auAdd (auNot b) (W 1)) ∧
    auAdd a b = auAdd b a ∧
    auAdd (auAdd a b) c = auAdd a (auAdd b c) ∧
    auSub a a = W 0 ∧
    auAdd a (W 0) = a

/-- R134: the carry loop keeps the sum modulo 2^256, has the low `k` bits of its carry zero after `k` iterations, so ends within
256, and computes R133's addition. -/
def Obligations.CarryLoopComputesAddition : Prop :=
  (∀ x y : Word, auAdd (auXor x y) (auShl (auAnd x y) 1#32) = auAdd x y) ∧
  (∀ (x y : Word) (k : Nat), k ≤ 256 →
    ((fun p : Word × Word => (auXor p.1 p.2, auShl (auAnd p.1 p.2) 1#32))^[k] (x, y)).2.toNat % 2 ^ k = 0) ∧
  (∀ (a b : Word) (fuel : Nat), 256 ≤ fuel → addLoop fuel a b = auAdd a b)

/-- R138: multiplication is the low half of the product and equals repeated addition. -/
def Obligations.MultiplicationIsRepeatedAddition : Prop :=
  ∀ a b : Word,
    (auMul a b).toNat = a.toNat * b.toNat % 2 ^ 256 ∧ mulLoop a b.toNat = auMul a b ∧ auMul a b = auMul b a

/-- R139, R140: floor quotient and remainder by a non-zero divisor, equal to repeated subtraction; a zero divisor is the
unit's error `DivisionByZero`. -/
def Obligations.DivisionIsRepeatedSubtraction : Prop :=
  (∀ a : Word, auDiv a (W 0) = .error .divisionByZero ∧ auMod a (W 0) = .error .divisionByZero) ∧
  (∀ a b : Word, b ≠ W 0 → ∃ q r : Word,
    auDiv a b = .ok q ∧ auMod a b = .ok r ∧
    q.toNat = a.toNat / b.toNat ∧ r.toNat = a.toNat % b.toNat ∧
    r.toNat < b.toNat ∧ a.toNat = q.toNat * b.toNat + r.toNat ∧
    ∀ fuel, a.toNat ≤ fuel → divLoop b fuel 0 a = (q.toNat, r))

/-- 41_alu.md R141 (the spec's decision D6; log entry 16): the unit's exponentiation, a square-and-multiply, has the closed
form's value and equals repeated multiplication. -/
def Obligations.ExponentiationIsRepeatedMultiplication : Prop :=
  ∀ a e : Word, (auExp a e).toNat = a.toNat ^ e.toNat % 2 ^ 256 ∧ expLoop a e.toNat = auExp a e

/-- R142, R143: the shifts by value, bit by bit, and as `n` single-bit shifts of the byte view. -/
def Obligations.ShiftsAreRepeatedByteSteps : Prop :=
  ∀ (a : Word) (n : U32),
    (auShl a n).toNat = a.toNat * 2 ^ n.toNat % 2 ^ 256 ∧
    (auShr a n).toNat = a.toNat / 2 ^ n.toNat ∧
    (∀ k, k < 256 → (auShl a n).getLsbD k = (decide (n.toNat ≤ k) && a.getLsbD (k - n.toNat))) ∧
    (∀ k, k < 256 → (auShr a n).getLsbD k = (decide (k + n.toNat ≤ 255) && a.getLsbD (k + n.toNat))) ∧
    auBytes32 (auShl a n) = repeatByteStep shlByteStep n.toNat (auBytes32 a) ∧
    auBytes32 (auShr a n) = repeatByteStep shrByteStep n.toNat (auBytes32 a)

/-- R145 to R148: the bitwise operations bit by bit and byte by byte. -/
def Obligations.BitwiseOperationsAreByteWise : Prop :=
  ∀ a b : Word,
    (∀ k, k < 256 →
      (auAnd a b).getLsbD k = (a.getLsbD k && b.getLsbD k) ∧
      (auOr a b).getLsbD k = (a.getLsbD k || b.getLsbD k) ∧
      (auXor a b).getLsbD k = (a.getLsbD k != b.getLsbD k) ∧
      (auNot a).getLsbD k = !a.getLsbD k) ∧
    auBytes32 (auAnd a b) = List.zipWith (· &&& ·) (auBytes32 a) (auBytes32 b) ∧
    auBytes32 (auOr a b) = List.zipWith (· ||| ·) (auBytes32 a) (auBytes32 b) ∧
    auBytes32 (auXor a b) = List.zipWith (· ^^^ ·) (auBytes32 a) (auBytes32 b) ∧
    auBytes32 (auNot a) = (auBytes32 a).map (fun x => BitVec.ofNat 8 (255 - x.toNat)) ∧
    (auNot a).toNat = 2 ^ 256 - 1 - a.toNat

/-- R150 to R156: the comparisons by value, as the lexicographic comparison of the byte view, and their total order. -/
def Obligations.ComparisonsAreLexicographicTotalOrder : Prop :=
  ∀ a b : Word,
    (auLt a b = true ↔ a.toNat < b.toNat) ∧
    auLt a b = lexLt (auBytes32 a) (auBytes32 b) ∧
    auGt a b = auLt b a ∧
    (auEq a b = true ↔ auBytes32 a = auBytes32 b) ∧
    (auEq a b = true ↔ a.toNat = b.toNat) ∧
    auNe a b = !auEq a b ∧
    (auLe a b = true ↔ a.toNat ≤ b.toNat) ∧ auLe a b = !auGt a b ∧
    (auGe a b = true ↔ b.toNat ≤ a.toNat) ∧ auGe a b = !auLt a b ∧
    ((auLt a b = true ∧ auEq a b = false ∧ auGt a b = false) ∨
     (auLt a b = false ∧ auEq a b = true ∧ auGt a b = false) ∨
     (auLt a b = false ∧ auEq a b = false ∧ auGt a b = true))

/-- 41_alu.md R163, R164 (D8): the checked conversion and the truncating one. -/
def Obligations.ConversionToMachineInteger : Prop :=
  ∀ w : Word,
    (w.toNat < 2 ^ 32 → auToU32 w = .ok w.toNat) ∧
    (2 ^ 32 ≤ w.toNat → auToU32 w = .error .conversionOverflow) ∧
    auToU32trunc w = w.toNat % 2 ^ 32

/-- 41_alu.md R165, R166 (D31; log entry 17): the full rendering has 64 digits and loses nothing; the minimal ones are its
tails, without leading zero digits or leading zero bytes, but for zero. -/
def Obligations.HexRenderings : Prop :=
  (∀ w : Word, (auHexFull w).length = 64) ∧
  (∀ v w : Word, auHexFull v = auHexFull w → v = w) ∧
  auHexMinNibble (W 0) = ['0'] ∧ auHexMinByte (W 0) = ['0', '0'] ∧
  (∀ w : Word, w ≠ W 0 →
    (∃ n, auHexFull w = List.replicate n '0' ++ auHexMinNibble w) ∧ (auHexMinNibble w).head? ≠ some '0' ∧
    (∃ n, auHexFull w = List.replicate (2 * n) '0' ++ auHexMinByte w) ∧
    (auHexMinByte w).take 2 ≠ ['0', '0'] ∧ auHexMinByte w ≠ [])

/-! ## Arithmetic, bitwise and comparison instructions -/

/-- R181: ADD, whole. -/
def Obligations.AddInstruction : Prop :=
  encode .add = [0x01#8] ∧ twoOperand .add fun a b => W ((a.toNat + b.toNat) % 2 ^ 256)

/-- SUB, MUL, DIV, MOD, EXP (42_arithmetic.md R182 to R186; operand order the spec's decision D4, `0^0 = 1` D6): a zero divisor
pushes 0 and does not fault. -/
def Obligations.SubMulDivModExpInstructions : Prop :=
  (twoOperand .sub fun a b => W ((a.toNat + (2 ^ 256 - b.toNat)) % 2 ^ 256)) ∧
  (twoOperand .mul fun a b => W (a.toNat * b.toNat % 2 ^ 256)) ∧
  (twoOperand .div fun a b => if b.toNat = 0 then W 0 else W (a.toNat / b.toNat)) ∧
  (twoOperand .mod fun a b => if b.toNat = 0 then W 0 else W (a.toNat % b.toNat)) ∧
  (twoOperand .exp fun a b => W (a.toNat ^ b.toNat % 2 ^ 256))

/-- AND, OR, XOR, NOT (42_arithmetic.md R187 to R190). -/
def Obligations.BitwiseInstructions : Prop :=
  (twoOperand .and fun a b => a &&& b) ∧ (twoOperand .or fun a b => a ||| b) ∧
  (twoOperand .xor fun a b => a ^^^ b) ∧ (oneOperand .not fun a => W (2 ^ 256 - 1 - a.toNat))

/-- ADDMOD and MULMOD (42_arithmetic.md R191, R192) under either setting of `MODARITH_WIDE` (D5; log entry 4). -/
def Obligations.AddmodMulmodInstructions : Prop :=
  (threeOperand .addmod fun p a b m =>
    if m.toNat = 0 then W 0
    else if p.modarithWide then W ((a.toNat + b.toNat) % m.toNat)
    else W ((a.toNat + b.toNat) % 2 ^ 256 % m.toNat)) ∧
  (threeOperand .mulmod fun p a b m =>
    if m.toNat = 0 then W 0
    else if p.modarithWide then W (a.toNat * b.toNat % m.toNat)
    else W (a.toNat * b.toNat % 2 ^ 256 % m.toNat))

/-- LT, GT, EQ, ISZERO (43_comparison.md R201 to R204; operand order D4, operand counts D34): unsigned, 1 or 0. -/
def Obligations.ComparisonInstructions : Prop :=
  (twoOperand .lt fun a b => if a.toNat < b.toNat then W 1 else W 0) ∧
  (twoOperand .gt fun a b => if b.toNat < a.toNat then W 1 else W 0) ∧
  (twoOperand .eq fun a b => if a = b then W 1 else W 0) ∧
  (oneOperand .iszero fun a => if a.toNat = 0 then W 1 else W 0)

/-! ## Memory, hashing, logging, code copy -/

/-- MLOAD (44_memory_ops.md R210; conversion D8, operand D17): the Word of the 32 bytes at the converted offset, big-endian;
memory is expanded, no byte changed. -/
def Obligations.MloadInstruction : Prop :=
  ∀ s : State,
    (∀ offset o rest, s.stack = offset :: rest → auToU32 offset = .ok o → roomInMemory s o 32 →
      roomOnStack s (rest.length + 1) →
      exec .mload s = .next { s with
        stack := W (bigEndian 32 fun i => s.mem.byte (o + i)) :: rest
        mem := covered s o 32
        pc := s.pc + 1 }) ∧
    (∀ offset rest, s.stack = offset :: rest → 2 ^ 32 ≤ offset.toNat → exec .mload s = raise .conversionOverflow s) ∧
    (s.stack = [] → exec .mload s = raise .stackUnderflow s)

/-- MSTORE (44_memory_ops.md R211; D8, D17): the 32 bytes at the converted offset become the value's, most significant first;
every other byte reads as before. -/
def Obligations.MstoreInstruction : Prop :=
  ∀ s : State, s.mem.wf →
    (∀ offset value o rest, s.stack = offset :: value :: rest → auToU32 offset = .ok o → roomInMemory s o 32 →
      ∃ m : Memory, exec .mstore s = .next { s with stack := rest, mem := m, pc := s.pc + 1 } ∧
        m.size = coveredSize s o 32 ∧
        (∀ i, i < 32 → m.byte (o + i) = wordByte value i) ∧
        (∀ a, a < o ∨ o + 32 ≤ a → m.byte a = s.mem.byte a)) ∧
    (∀ offset value rest, s.stack = offset :: value :: rest → 2 ^ 32 ≤ offset.toNat →
      exec .mstore s = raise .conversionOverflow s) ∧
    (s.stack.length < 2 → exec .mstore s = raise .stackUnderflow s)

/-- MSTORE8 (44_memory_ops.md R212; the byte stored is the spec's decision D17): one byte, `val(value) mod 256`. -/
def Obligations.Mstore8Instruction : Prop :=
  ∀ s : State, s.mem.wf →
    (∀ offset value o rest, s.stack = offset :: value :: rest → auToU32 offset = .ok o → roomInMemory s o 1 →
      ∃ m : Memory, exec .mstore8 s = .next { s with stack := rest, mem := m, pc := s.pc + 1 } ∧
        m.size = coveredSize s o 1 ∧
        m.byte o = BitVec.ofNat 8 (value.toNat % 256) ∧
        (∀ a, a ≠ o → m.byte a = s.mem.byte a)) ∧
    (∀ offset value rest, s.stack = offset :: value :: rest → 2 ^ 32 ≤ offset.toNat →
      exec .mstore8 s = raise .conversionOverflow s) ∧
    (s.stack.length < 2 → exec .mstore8 s = raise .stackUnderflow s)

/-- SHA3 (44_memory_ops.md R215; HASH is the parameter of R50, D29; log entry 7). -/
def Obligations.Sha3Instruction : Prop :=
  ∀ s : State,
    (∀ offset size o n rest, s.stack = offset :: size :: rest → auToU32 offset = .ok o → auToU32 size = .ok n →
      roomInMemory s o n → roomOnStack s (rest.length + 1) →
      exec .sha3 s = .next { s with
        stack := Config.hash (slice s o n) :: rest, mem := covered s o n, pc := s.pc + 1 }) ∧
    (∀ offset size rest, s.stack = offset :: size :: rest → 2 ^ 32 ≤ offset.toNat ∨ 2 ^ 32 ≤ size.toNat →
      exec .sha3 s = raise .conversionOverflow s) ∧
    (s.stack.length < 2 → exec .sha3 s = raise .stackUnderflow s)

/-- LOG0 to LOG4 (44_memory_ops.md R216 to R222; topic order D35, conversion D8): one record appended, `2 + N` entries
removed, no byte of memory changed; the conversions come before the topics are popped. -/
def Obligations.LogInstructions : Prop :=
  ∀ p ∈ logInstrs, ∀ s : State,
    (∀ offset size topics o n rest, s.stack = offset :: size :: (topics ++ rest) → topics.length = p.1 →
      auToU32 offset = .ok o → auToU32 size = .ok n → roomInMemory s o n →
      exec p.2 s = .next { s with
        stack := rest
        mem := covered s o n
        logs := s.logs ++ [{ topics := topics, data := slice s o n }]
        pc := s.pc + 1 }) ∧
    (∀ offset size rest, s.stack = offset :: size :: rest → 2 ^ 32 ≤ offset.toNat ∨ 2 ^ 32 ≤ size.toNat →
      exec p.2 s = raise .conversionOverflow s) ∧
    (∀ offset size o n rest, s.stack = offset :: size :: rest → rest.length < p.1 →
      auToU32 offset = .ok o → auToU32 size = .ok n → roomInMemory s o n →
      exec p.2 s = raise .stackUnderflow s) ∧
    (s.stack.length < 2 → exec p.2 s = raise .stackUnderflow s)

/-- CODECOPY (44_memory_ops.md R223; operand order D37): code bytes, zero past the end of the code, land at the destination;
every other byte reads as before. -/
def Obligations.CodecopyInstruction : Prop :=
  ∀ s : State, s.mem.wf →
    (∀ dest codeOffset length d c n rest, s.stack = dest :: codeOffset :: length :: rest →
      auToU32 dest = .ok d → auToU32 codeOffset = .ok c → auToU32 length = .ok n → roomInMemory s d n →
      ∃ m : Memory, exec .codecopy s = .next { s with stack := rest, mem := m, pc := s.pc + 1 } ∧
        m.size = coveredSize s d n ∧
        (∀ i, i < n → m.byte (d + i) = if c + i < s.code.length then s.code.getD (c + i) 0#8 else 0#8) ∧
        (∀ a, a < d ∨ d + n ≤ a → m.byte a = s.mem.byte a)) ∧
    (∀ dest codeOffset length rest, s.stack = dest :: codeOffset :: length :: rest →
      2 ^ 32 ≤ dest.toNat ∨ 2 ^ 32 ≤ codeOffset.toNat ∨ 2 ^ 32 ≤ length.toNat →
      exec .codecopy s = raise .conversionOverflow s) ∧
    (s.stack.length < 3 → exec .codecopy s = raise .stackUnderflow s)

/-! ## Context and storage -/

/-- ADDRESS, ORIGIN, CALLER, CALLVALUE, CALLDATASIZE, PC, MSIZE (45_context.md R241 to R248; the mapping is the spec's
decision D19, PC and MSIZE D20). -/
def Obligations.ContextReadInstructions : Prop :=
  (pureRead .address fun s => s.ctx.recipient) ∧
  (pureRead .origin fun s => s.ctx.sender) ∧
  (pureRead .caller fun s => s.ctx.sender) ∧
  (pureRead .callvalue fun s => s.ctx.value) ∧
  (pureRead .calldatasize fun s => W s.ctx.input.length) ∧
  (pureRead .pc fun s => W s.pc) ∧
  (pureRead .msize fun s => W s.mem.size)

/-- CALLDATALOAD (45_context.md R244; D18): 32 input bytes from the converted offset, zero past the end of the input. -/
def Obligations.CalldataloadInstruction : Prop :=
  ∀ s : State,
    (∀ offset i rest, s.stack = offset :: rest → auToU32 offset = .ok i → roomOnStack s (rest.length + 1) →
      exec .calldataload s = .next { s with
        stack := W (bigEndian 32 fun k =>
          if i + k < s.ctx.input.length then s.ctx.input.getD (i + k) 0#8 else 0#8) :: rest
        pc := s.pc + 1 }) ∧
    (∀ offset rest, s.stack = offset :: rest → 2 ^ 32 ≤ offset.toNat →
      exec .calldataload s = raise .conversionOverflow s) ∧
    (s.stack = [] → exec .calldataload s = raise .stackUnderflow s)

/-- SLOAD (46_storage.md R260; request arguments D28; log entries 3 and 8): a present key pushes its value without a fetch; an
absent one issues exactly one request, and what follows depends on the free answer alone. -/
def Obligations.SloadInstruction : Prop :=
  ∀ s : State,
    (∀ key v rest, s.stack = key :: rest → s.storage.find key = some v → roomOnStack s (rest.length + 1) →
      exec .sload s = .next { s with stack := v :: rest, pc := s.pc + 1 }) ∧
    (∀ key rest, s.stack = key :: rest → s.storage.find key = none → roomOnStack s (rest.length + 1) →
      exec .sload s =
        (let request : FetchRequest :=
          { address := s.ctx.recipient, index := key, height := W (s.ctx.height.toNat + (2 ^ 256 - 1)) }
         match Config.fetchStorage s.freeIndex request with
         | .found r => .next { s with
             stack := r :: rest
             storage := s.storage.insert key r
             pc := s.pc + 1
             freeIndex := s.freeIndex + 1
             fetches := s.fetches ++ [request] }
         | .failure => .next (faultState .dataSourceFailure { s with
             freeIndex := s.freeIndex + 1
             fetches := s.fetches ++ [request] })
         | .noAnswer => .fault .dataSourceNeverAnswers)) ∧
    (s.stack = [] → exec .sload s = raise .stackUnderflow s)

/-- SSTORE (46_storage.md R261; operand order D17): the key becomes present with the value, no other key changes, no request is
issued. -/
def Obligations.SstoreInstruction : Prop :=
  ∀ s : State,
    (∀ key value rest, s.stack = key :: value :: rest →
      ∃ m : Storage, exec .sstore s = .next { s with stack := rest, storage := m, pc := s.pc + 1 } ∧
        m.find key = some value ∧ (∀ other, other ≠ key → m.find other = s.storage.find other)) ∧
    (s.stack.length < 2 → exec .sstore s = raise .stackUnderflow s)

/-- One fetch per key (20_memory.md R81; the requests are those recorded, log entry 3): SLOAD of an absent key issues exactly one
request, and once it has completed a second SLOAD of that key issues none and pushes the same value. -/
def Obligations.OneFetchPerKey : Prop :=
  ∀ (s : State) (key : Word) (rest : List Word),
    s.stack = key :: rest → s.storage.find key = none → roomOnStack s (rest.length + 1) →
    match exec .sload s with
    | .next t =>
      t.fetches.length = s.fetches.length + 1 ∧
      (t.intact → ∃ v, t.stack = v :: rest ∧ t.storage.find key = some v ∧
        ∀ (u : State) (below : List Word), u.stack = key :: below → u.storage.find key = t.storage.find key →
          roomOnStack u (below.length + 1) →
          exec .sload u = .next { u with stack := v :: below, pc := u.pc + 1 })
    | .fault f => f = .dataSourceNeverAnswers
    | .refused _ => False

/-! ## Control flow and terminal instructions -/

/-- JUMP, JUMPI, JUMPDEST (47_control.md R270 to R272, R278; the spec's decisions D8, D14, D15, D16): a destination is valid
exactly when it is below the code's length and the byte there is 0x5b. -/
def Obligations.JumpInstructions : Prop :=
  ∀ s : State,
    (∀ dest d rest, s.stack = dest :: rest → auToU32 dest = .ok d → s.code[d]? = some 0x5b#8 →
      exec .jump s = .next { s with stack := rest, pc := d }) ∧
    (∀ dest d rest, s.stack = dest :: rest → auToU32 dest = .ok d → s.code[d]? ≠ some 0x5b#8 →
      exec .jump s = raise .invalidJumpDestination s) ∧
    (∀ dest rest, s.stack = dest :: rest → 2 ^ 32 ≤ dest.toNat → exec .jump s = raise .conversionOverflow s) ∧
    (s.stack = [] → exec .jump s = raise .stackUnderflow s) ∧
    (∀ dest rest, s.stack = dest :: W 0 :: rest →
      exec .jumpi s = .next { s with stack := rest, pc := s.pc + 1 }) ∧
    (∀ dest cond d rest, s.stack = dest :: cond :: rest → cond ≠ W 0 → auToU32 dest = .ok d →
      s.code[d]? = some 0x5b#8 → exec .jumpi s = .next { s with stack := rest, pc := d }) ∧
    (∀ dest cond d rest, s.stack = dest :: cond :: rest → cond ≠ W 0 → auToU32 dest = .ok d →
      s.code[d]? ≠ some 0x5b#8 → exec .jumpi s = raise .invalidJumpDestination s) ∧
    (∀ dest cond rest, s.stack = dest :: cond :: rest → cond ≠ W 0 → 2 ^ 32 ≤ dest.toNat →
      exec .jumpi s = raise .conversionOverflow s) ∧
    (s.stack.length < 2 → exec .jumpi s = raise .stackUnderflow s) ∧
    exec .jumpdest s = .next { s with pc := s.pc + 1 }

/-- STOP, RETURN, REVERT, SUICIDE (47_control.md R273 to R276; the spec's decisions D8, D17, D25, D26): `pc` stays; `size` bytes
from `offset` become the return data of RETURN and REVERT; REVERT sets its flag and undoes nothing; SUICIDE discards its
operand and sets its flag. -/
def Obligations.HaltInstructions : Prop :=
  ∀ s : State,
    exec .stop s = .next { s with run := .halted .stop, returndata := [] } ∧
    (∀ offset size o n rest, s.stack = offset :: size :: rest → auToU32 offset = .ok o → auToU32 size = .ok n →
      roomInMemory s o n →
      exec .ret s = .next { s with
        run := .halted (.ret (slice s o n)), stack := rest, mem := covered s o n, returndata := slice s o n } ∧
      exec .revert s = .next { s with
        run := .halted (.revert (slice s o n)), stack := rest, mem := covered s o n, returndata := slice s o n
        reverted := true }) ∧
    (∀ offset size rest, s.stack = offset :: size :: rest → 2 ^ 32 ≤ offset.toNat ∨ 2 ^ 32 ≤ size.toNat →
      exec .ret s = raise .conversionOverflow s ∧ exec .revert s = raise .conversionOverflow s) ∧
    (s.stack.length < 2 → exec .ret s = raise .stackUnderflow s ∧ exec .revert s = raise .stackUnderflow s) ∧
    (∀ beneficiary rest, s.stack = beneficiary :: rest →
      exec .suicide s = .next { s with run := .halted .suicide, stack := rest, selfdestructed := true }) ∧
    (s.stack = [] → exec .suicide s = raise .stackUnderflow s)

/-! ## Stack instructions -/

/-- PUSH1 to PUSH32 (48_stack.md R301, R305 to R336; the fault of a truncated immediate is the spec's decision D13; log entry
13): the immediate's big-endian value is pushed and `pc` passes the immediate. -/
def Obligations.PushInstructions : Prop :=
  ∀ p ∈ pushes, ∀ (s : State) (imm : List Byte), imm.length = p.1 →
    (s.pc + p.1 < s.code.length → roomOnStack s (s.stack.length + 1) →
      exec (p.2 imm) s = .next { s with
        stack := W (bigEndian p.1 fun k => imm.getD k 0#8) :: s.stack
        pc := s.pc + 1 + p.1 }) ∧
    (s.code.length ≤ s.pc + p.1 → exec (p.2 imm) s = raise .noMoreInstructions s)

/-- A step at a PUSHn opcode (48_stack.md R301, D13): the immediate is the `n` code bytes after it; when fewer follow, the
step raises `NoMoreInstructions`. -/
def Obligations.StepAtPushReadsItsImmediateFromCode : Prop :=
  ∀ (s : State) (n : Nat) (op : Byte) (following : List Byte),
    s.run = .running → s.code.drop s.pc = op :: following → 1 ≤ n → n ≤ 32 → op.toNat = 0x5f + n →
    (n ≤ following.length → roomOnStack s (s.stack.length + 1) →
      step s = .next { s with
        stack := W (bigEndian n fun k => following.getD k 0#8) :: s.stack
        pc := s.pc + 1 + n }) ∧
    (following.length < n → step s = raise .noMoreInstructions s)

/-- POP, and DUP1 to DUP16 (48_stack.md R304, R302, R337 to R352; depth counted as the spec's decision D36 says): POP discards the
top entry, DUPn pushes `stack[n−1]`. -/
def Obligations.PopAndDupInstructions : Prop :=
  (∀ s : State,
    (∀ a rest, s.stack = a :: rest → exec .pop s = .next { s with stack := rest, pc := s.pc + 1 }) ∧
    (s.stack = [] → exec .pop s = raise .stackUnderflow s)) ∧
  (∀ p ∈ dups, ∀ s : State,
    (∀ above v below, s.stack = above ++ v :: below → above.length + 1 = p.1 → roomOnStack s (s.stack.length + 1) →
      exec p.2 s = .next { s with stack := v :: s.stack, pc := s.pc + 1 }) ∧
    (s.stack.length < p.1 → exec p.2 s = raise .stackUnderflow s))

/-- SWAP1 to SWAP16 (48_stack.md R303, R353 to R368; D36): `stack[0]` and `stack[n]` are exchanged, the entries between and
below stay. -/
def Obligations.SwapInstructions : Prop :=
  ∀ p ∈ swaps, ∀ s : State,
    (∀ t between v below, s.stack = t :: (between ++ v :: below) → between.length + 1 = p.1 →
      exec p.2 s = .next { s with stack := v :: (between ++ t :: below), pc := s.pc + 1 }) ∧
    (s.stack.length ≤ p.1 → exec p.2 s = raise .stackUnderflow s)
end

