-- ==== Sys2Proof/Laws/Alu.lean ====
section
/-! SUPPORT. The unit's operations as values and as the operations of BitVec. -/

namespace Sys2Proof.Machine

theorem W_toNat (n : Nat) : (W n).toNat = n % wordModulus := by simp [wordModulus]

theorem auAdd_toNat (a b : Word) : (auAdd a b).toNat = (a.toNat + b.toNat) % wordModulus := by simp [auAdd, wordModulus]

theorem auAdd_eq (a b : Word) : auAdd a b = a + b := BitVec.eq_of_toNat_eq (by simp [auAdd])

theorem auSub_eq (a b : Word) : auSub a b = a - b := by
  apply BitVec.eq_of_toNat_eq
  have ha := a.isLt
  have hb := b.isLt
  unfold auSub
  split <;> simp only [BitVec.toNat_ofNat, BitVec.toNat_sub, wordModulus] <;> omega

theorem auMul_toNat (a b : Word) : (auMul a b).toNat = a.toNat * b.toNat % wordModulus := by simp [auMul, wordModulus]

theorem auMul_eq (a b : Word) : auMul a b = a * b := BitVec.eq_of_toNat_eq (by simp [auMul])

theorem auEq_iff (a b : Word) : auEq a b = true ↔ a = b := by simp [auEq]

theorem auNe_iff (a b : Word) : auNe a b = true ↔ a ≠ b := by simp [auNe, auEq]

theorem auLt_iff (a b : Word) : auLt a b = true ↔ a.toNat < b.toNat := by simp [auLt]

theorem auGt_iff (a b : Word) : auGt a b = true ↔ b.toNat < a.toNat := by simp [auGt]

theorem auLe_iff (a b : Word) : auLe a b = true ↔ a.toNat ≤ b.toNat := by simp [auLe, auGt]

theorem auGe_iff (a b : Word) : auGe a b = true ↔ b.toNat ≤ a.toNat := by simp [auGe, auLt]

theorem auDiv_of_ne (a b : Word) (h : b ≠ W 0) : auDiv a b = .ok (W (a.toNat / b.toNat)) := by
  have : b.toNat ≠ 0 := fun hh => h (BitVec.eq_of_toNat_eq (by simpa using hh))
  simp only [auDiv, this, if_false]

theorem auMod_of_ne (a b : Word) (h : b ≠ W 0) : auMod a b = .ok (W (a.toNat % b.toNat)) := by
  have : b.toNat ≠ 0 := fun hh => h (BitVec.eq_of_toNat_eq (by simpa using hh))
  simp only [auMod, this, if_false]

theorem auToU32_ok (w : Word) (h : w.toNat < 2 ^ 32) : auToU32 w = .ok w.toNat := if_pos h

theorem auToU32_error (w : Word) (h : ¬ w.toNat < 2 ^ 32) : auToU32 w = .error .conversionOverflow := if_neg h

@[simp] theorem auBytes32_length (w : Word) : (auBytes32 w).length = 32 := by simp [auBytes32]

theorem auWord_ok (bs : List Byte) (h : bs.length ≤ 32) : auWord bs = .ok (W (natOfBytes bs)) := by
  have : ¬ bs.length > wordBytes := by simpa [wordBytes] using h
  simp only [auWord, this, if_false]

theorem auWord_error (bs : List Byte) (h : 32 < bs.length) : auWord bs = .error .constructionOverflow := if_pos h

/-- The value of a byte sequence, one more byte at its low end. -/
theorem natOfBytes_append_singleton (bs : List Byte) (b : Byte) :
    natOfBytes (bs ++ [b]) = natOfBytes bs * 256 + b.toNat := by simp [natOfBytes]

@[simp] theorem natOfBytes_nil : natOfBytes [] = 0 := rfl

theorem natOfBytes_lt (bs : List Byte) : natOfBytes bs < 256 ^ bs.length := by
  induction bs using List.reverseRecOn with
  | nil => simp
  | append_singleton bs b ih =>
    have hb := b.isLt
    rw [natOfBytes_append_singleton, List.length_append, List.length_singleton, Nat.pow_succ]
    omega

theorem natOfBytes_cons (b : Byte) (bs : List Byte) :
    natOfBytes (b :: bs) = b.toNat * 256 ^ bs.length + natOfBytes bs := by
  induction bs using List.reverseRecOn with
  | nil => simp [natOfBytes]
  | append_singleton bs c ih =>
    rw [← List.cons_append, natOfBytes_append_singleton, ih, natOfBytes_append_singleton, List.length_append,
      List.length_singleton, Nat.pow_succ]
    ring

end Sys2Proof.Machine
end

