-- ==== Sys2Proof/Laws/Memory.lean ====
section
/-! SUPPORT. The data memory unit: reading after writing, lengths, and that every operation keeps the canonical form. -/

namespace Sys2Proof.Machine

/-! ## Cells -/

theorem cellRead_cellWrite_same (cs : List Host.Cell) (a : Nat) (v : Byte)
    (h : cs.Pairwise (fun x y => x.1 < y.1)) : cellRead (cellWrite cs a v) a = v := by
  induction cs with
  | nil => by_cases hv : v = unlistedByte <;> simp [cellWrite, cellRead, hv]
  | cons c rest ih =>
    obtain ⟨b, w⟩ := c
    obtain ⟨hb, hr⟩ := List.pairwise_cons.mp h
    have low : ∀ (cs : List Host.Cell), (∀ c ∈ cs, a < c.1) → cellRead cs a = unlistedByte := by
      intro cs hcs
      induction cs with
      | nil => rfl
      | cons c cs ihc =>
        have h1 : a < c.1 := hcs c (by simp)
        have h2 : a ≠ c.1 := by omega
        simp only [cellRead, h2, if_false]
        exact ihc fun d hd => hcs d (List.mem_cons_of_mem _ hd)
    rcases Nat.lt_trichotomy a b with hlt | heq | hgt
    · by_cases hv : v = unlistedByte
      · simp only [cellWrite, hlt, hv, if_true]
        refine low _ fun c hc => ?_
        rcases List.mem_cons.mp hc with rfl | hc
        · exact hlt
        · exact Nat.lt_trans hlt (hb c hc)
      · simp [cellWrite, hlt, hv, cellRead]
    · subst heq
      by_cases hv : v = unlistedByte
      · simp only [cellWrite, Nat.lt_irrefl, if_false, if_true, hv]
        exact low _ hb
      · simp [cellWrite, hv, cellRead]
    · have h1 : ¬ a < b := by omega
      have h2 : a ≠ b := by omega
      simpa [cellWrite, h1, h2, cellRead] using ih hr

theorem cellRead_cellWrite_other (cs : List Host.Cell) (a b : Nat) (v : Byte) (hne : b ≠ a) :
    cellRead (cellWrite cs a v) b = cellRead cs b := by
  induction cs with
  | nil => by_cases hv : v = unlistedByte <;> simp [cellWrite, cellRead, hv, hne]
  | cons c rest ih =>
    obtain ⟨x, w⟩ := c
    rcases Nat.lt_trichotomy a x with hlt | heq | hgt
    · by_cases hv : v = unlistedByte <;> simp [cellWrite, hlt, hv, cellRead, hne]
    · subst heq
      by_cases hv : v = unlistedByte <;> simp [cellWrite, hv, cellRead, hne]
    · have h1 : ¬ a < x := by omega
      have h2 : a ≠ x := by omega
      simp only [cellWrite, h1, h2, if_false, cellRead, ih]

/-- Every cell after a write was there before or is the one written. -/
theorem mem_cellWrite {cs : List Host.Cell} {a : Nat} {v : Byte} {c : Host.Cell} (h : c ∈ cellWrite cs a v) :
    c ∈ cs ∨ (c = (a, v) ∧ v ≠ unlistedByte) := by
  induction cs with
  | nil =>
    by_cases hv : v = unlistedByte
    · simp [cellWrite, hv] at h
    · simp only [cellWrite, hv, if_false, List.mem_singleton] at h
      exact .inr ⟨h, hv⟩
  | cons d rest ih =>
    obtain ⟨x, w⟩ := d
    rcases Nat.lt_trichotomy a x with hlt | heq | hgt
    · by_cases hv : v = unlistedByte
      · simp only [cellWrite, hlt, hv, if_true] at h
        exact .inl h
      · simp only [cellWrite, hlt, hv, if_true, if_false] at h
        rcases List.mem_cons.mp h with h | h
        · exact .inr ⟨h, hv⟩
        · exact .inl h
    · subst heq
      by_cases hv : v = unlistedByte
      · simp only [cellWrite, Nat.lt_irrefl, hv, if_true, if_false] at h
        exact .inl (List.mem_cons_of_mem _ h)
      · simp only [cellWrite, Nat.lt_irrefl, hv, if_true, if_false] at h
        rcases List.mem_cons.mp h with h | h
        · exact .inr ⟨h, hv⟩
        · exact .inl (List.mem_cons_of_mem _ h)
    · have h1 : ¬ a < x := by omega
      have h2 : a ≠ x := by omega
      simp only [cellWrite, h1, h2, if_false] at h
      rcases List.mem_cons.mp h with rfl | h
      · exact .inl (by simp)
      · rcases ih h with h | h
        · exact .inl (List.mem_cons_of_mem _ h)
        · exact .inr h

theorem cellWrite_rising (cs : List Host.Cell) (a : Nat) (v : Byte) (h : cs.Pairwise (fun x y => x.1 < y.1)) :
    (cellWrite cs a v).Pairwise (fun x y => x.1 < y.1) := by
  induction cs with
  | nil => by_cases hv : v = unlistedByte <;> simp [cellWrite, hv]
  | cons d rest ih =>
    obtain ⟨x, w⟩ := d
    obtain ⟨hx, hr⟩ := List.pairwise_cons.mp h
    rcases Nat.lt_trichotomy a x with hlt | heq | hgt
    · by_cases hv : v = unlistedByte
      · simpa only [cellWrite, hlt, hv, if_true] using h
      · simp only [cellWrite, hlt, hv, if_true, if_false]
        refine List.pairwise_cons.mpr ⟨fun c hc => ?_, h⟩
        rcases List.mem_cons.mp hc with rfl | hc
        · exact hlt
        · exact Nat.lt_trans hlt (hx c hc)
    · subst heq
      by_cases hv : v = unlistedByte
      · simpa only [cellWrite, Nat.lt_irrefl, hv, if_true, if_false] using hr
      · simp only [cellWrite, Nat.lt_irrefl, hv, if_true, if_false]
        exact List.pairwise_cons.mpr ⟨hx, hr⟩
    · have h1 : ¬ a < x := by omega
      have h2 : a ≠ x := by omega
      simp only [cellWrite, h1, h2, if_false]
      refine List.pairwise_cons.mpr ⟨fun c hc => ?_, ih hr⟩
      rcases mem_cellWrite hc with hc | ⟨rfl, -⟩
      · exact hx c hc
      · exact hgt

/-! ## Reading, writing, growing -/

@[simp] theorem Memory.setByte_size (m : Memory) (a : Nat) (v : Byte) : (m.setByte a v).size = m.size := rfl

theorem Memory.byte_setByte_same (m : Memory) (a : Nat) (v : Byte) (h : m.wf) : (m.setByte a v).byte a = v :=
  cellRead_cellWrite_same m.cells a v h.1

theorem Memory.byte_setByte_other (m : Memory) (a b : Nat) (v : Byte) (h : b ≠ a) :
    (m.setByte a v).byte b = m.byte b :=
  cellRead_cellWrite_other m.cells a b v h

theorem Memory.setByte_wf (m : Memory) (a : Nat) (v : Byte) (h : m.wf) (ha : a < m.size) : (m.setByte a v).wf := by
  refine ⟨cellWrite_rising _ _ _ h.1, fun c hc => ?_⟩
  rcases mem_cellWrite hc with hc | ⟨rfl, hv⟩
  · exact h.2 c hc
  · exact ⟨hv, ha⟩

@[simp] theorem Memory.write_size (m : Memory) (o : Nat) (bs : List Byte) : (m.write o bs).size = m.size := by
  induction bs generalizing m o with
  | nil => rfl
  | cons v bs ih => simp [Memory.write, ih]

theorem Memory.write_wf (m : Memory) (o : Nat) (bs : List Byte) (h : m.wf) (hs : o + bs.length ≤ m.size) :
    (m.write o bs).wf := by
  induction bs generalizing m o with
  | nil => exact h
  | cons v bs ih =>
    have hs' : o + bs.length + 1 ≤ m.size := by simpa [Nat.add_assoc] using hs
    exact ih (m.setByte o v) (o + 1) (m.setByte_wf o v h (by omega)) (by simp only [Memory.setByte_size]; omega)

theorem Memory.byte_write_other (m : Memory) (o : Nat) (bs : List Byte) (a : Nat)
    (h : a < o ∨ o + bs.length ≤ a) : (m.write o bs).byte a = m.byte a := by
  induction bs generalizing m o with
  | nil => rfl
  | cons v bs ih =>
    have h' : a < o ∨ o + bs.length + 1 ≤ a := by simpa [Nat.add_assoc] using h
    rw [Memory.write, ih _ _ (by omega), Memory.byte_setByte_other _ _ _ _ (by omega)]

theorem Memory.byte_write_at (m : Memory) (o : Nat) (bs : List Byte) (i : Nat) (hi : i < bs.length) (hm : m.wf)
    (hs : o + bs.length ≤ m.size) : (m.write o bs).byte (o + i) = bs[i] := by
  induction bs generalizing m o i with
  | nil => simp at hi
  | cons v bs ih =>
    have hs' : o + bs.length + 1 ≤ m.size := by simpa [Nat.add_assoc] using hs
    cases i with
    | zero =>
      rw [Memory.write, Memory.byte_write_other _ _ _ _ (.inl (by omega))]
      simpa using m.byte_setByte_same o v hm
    | succ i =>
      have := ih (m.setByte o v) (o + 1) i (by simpa using hi) (m.setByte_wf o v hm (by omega))
        (by simp only [Memory.setByte_size]; omega)
      simpa [Memory.write, Nat.add_assoc, Nat.add_comm 1 i] using this

@[simp] theorem Memory.read_length (m : Memory) (o n : Nat) : (m.read o n).length = n := by simp [Memory.read]

theorem Memory.read_getElem (m : Memory) (o n i : Nat) (h : i < (m.read o n).length) : (m.read o n)[i] = m.byte (o + i) := by
  simp [Memory.read]

/-- What was written is read back. -/
theorem Memory.read_write_same (m : Memory) (o : Nat) (bs : List Byte) (hm : m.wf) (hs : o + bs.length ≤ m.size) :
    (m.write o bs).read o bs.length = bs := by
  refine List.ext_getElem (by simp) fun i h1 h2 => ?_
  rw [Memory.read_getElem, Memory.byte_write_at m o bs i h2 hm hs]

@[simp] theorem Memory.grown_byte (m : Memory) (n a : Nat) : (m.grown n).byte a = m.byte a := by
  unfold Memory.grown; split <;> rfl

theorem Memory.grown_size (m : Memory) (n : Nat) : (m.grown n).size = max m.size (roundUp n) := by
  unfold Memory.grown; split <;> simp <;> omega

theorem le_roundUp (n : Nat) : n ≤ roundUp n := by simp only [roundUp, memGranule]; omega

theorem roundUp_mod (n : Nat) : roundUp n % memGranule = 0 := by simp [roundUp]

theorem roundUp_lt (n : Nat) : roundUp n < n + memGranule := by simp only [roundUp, memGranule]; omega

theorem Memory.grown_covers (m : Memory) (n : Nat) : n ≤ (m.grown n).size := by
  rw [Memory.grown_size]; exact Nat.le_trans (le_roundUp n) (Nat.le_max_right _ _)

theorem Memory.grown_wf (m : Memory) (n : Nat) (h : m.wf) : (m.grown n).wf := by
  unfold Memory.grown
  split
  · exact ⟨h.1, fun c hc => ⟨(h.2 c hc).1, Nat.lt_trans (h.2 c hc).2 (by assumption)⟩⟩
  · exact h

theorem Memory.grown_of_le (m : Memory) (n : Nat) (h : roundUp n ≤ m.size) : m.grown n = m := by
  unfold Memory.grown; split
  · omega
  · rfl

/-- A canonical memory reads as `unlistedByte` at and beyond its length. -/
theorem Memory.byte_past_end (m : Memory) (h : m.wf) (a : Nat) (ha : m.size ≤ a) : m.byte a = unlistedByte := by
  have : ∀ cs : List Host.Cell, (∀ c ∈ cs, c.1 < m.size) → cellRead cs a = unlistedByte := by
    intro cs hcs
    induction cs with
    | nil => rfl
    | cons c cs ih =>
      have h1 := hcs c (by simp)
      have h2 : a ≠ c.1 := by omega
      simp only [cellRead, h2, if_false]
      exact ih fun d hd => hcs d (List.mem_cons_of_mem _ hd)
  exact this m.cells fun c hc => (h.2 c hc).2

/-! ## The memory of a byte sequence -/

theorem mem_cellsOfBytes {bs : List Byte} {o : Nat} {c : Host.Cell} (h : c ∈ cellsOfBytes o bs) :
    o ≤ c.1 ∧ c.1 < o + bs.length ∧ c.2 ≠ unlistedByte := by
  induction bs generalizing o with
  | nil => simp [cellsOfBytes] at h
  | cons v bs ih =>
    by_cases hv : v = unlistedByte
    · simp only [cellsOfBytes, hv, if_true] at h
      have := ih h
      simp only [List.length_cons]
      exact ⟨by omega, by omega, this.2.2⟩
    · simp only [cellsOfBytes, hv, if_false] at h
      rcases List.mem_cons.mp h with rfl | h
      · exact ⟨Nat.le_refl _, by simp, hv⟩
      · have := ih h
        simp only [List.length_cons]
        exact ⟨by omega, by omega, this.2.2⟩

theorem Memory.ofBytes_wf (bs : List Byte) : (Memory.ofBytes bs).wf := by
  have rising : ∀ (o : Nat) (bs : List Byte), (cellsOfBytes o bs).Pairwise (fun x y => x.1 < y.1) := by
    intro o bs
    induction bs generalizing o with
    | nil => exact List.Pairwise.nil
    | cons v bs ih =>
      by_cases hv : v = unlistedByte
      · simpa only [cellsOfBytes, hv, if_true] using ih (o + 1)
      · simp only [cellsOfBytes, hv, if_false]
        exact List.pairwise_cons.mpr ⟨fun c hc => (mem_cellsOfBytes hc).1, ih (o + 1)⟩
  refine ⟨rising 0 bs, fun c hc => ?_⟩
  have := mem_cellsOfBytes hc
  exact ⟨this.2.2, by simpa [Memory.ofBytes] using this.2.1⟩

/-- Right after reset the memory is canonical. -/
theorem Memory.reset_wf : State.reset.mem.wf := by decide

end Sys2Proof.Machine
end

