-- ==== Sys2Proof/Laws/State.lean ====
section
/-! SUPPORT. One lemma per component per named update of the state, and per component of the state after a fault. -/

namespace Sys2Proof.Machine

@[simp] theorem State.withRun_run (s : State) (v : Run) : (s.withRun v).run = v := rfl
@[simp] theorem State.withRun_pc (s : State) (v : Run) : (s.withRun v).pc = s.pc := rfl
@[simp] theorem State.withRun_stack (s : State) (v : Run) : (s.withRun v).stack = s.stack := rfl
@[simp] theorem State.withRun_mem (s : State) (v : Run) : (s.withRun v).mem = s.mem := rfl
@[simp] theorem State.withRun_storage (s : State) (v : Run) : (s.withRun v).storage = s.storage := rfl
@[simp] theorem State.withRun_logs (s : State) (v : Run) : (s.withRun v).logs = s.logs := rfl
@[simp] theorem State.withRun_reverted (s : State) (v : Run) : (s.withRun v).reverted = s.reverted := rfl
@[simp] theorem State.withRun_selfdestructed (s : State) (v : Run) : (s.withRun v).selfdestructed = s.selfdestructed := rfl
@[simp] theorem State.withRun_returndata (s : State) (v : Run) : (s.withRun v).returndata = s.returndata := rfl
@[simp] theorem State.withRun_code (s : State) (v : Run) : (s.withRun v).code = s.code := rfl
@[simp] theorem State.withRun_ctx (s : State) (v : Run) : (s.withRun v).ctx = s.ctx := rfl
@[simp] theorem State.withRun_params (s : State) (v : Run) : (s.withRun v).params = s.params := rfl
@[simp] theorem State.withRun_freeIndex (s : State) (v : Run) : (s.withRun v).freeIndex = s.freeIndex := rfl
@[simp] theorem State.withRun_fetches (s : State) (v : Run) : (s.withRun v).fetches = s.fetches := rfl

@[simp] theorem State.withPc_run (s : State) (v : Nat) : (s.withPc v).run = s.run := rfl
@[simp] theorem State.withPc_pc (s : State) (v : Nat) : (s.withPc v).pc = v := rfl
@[simp] theorem State.withPc_stack (s : State) (v : Nat) : (s.withPc v).stack = s.stack := rfl
@[simp] theorem State.withPc_mem (s : State) (v : Nat) : (s.withPc v).mem = s.mem := rfl
@[simp] theorem State.withPc_storage (s : State) (v : Nat) : (s.withPc v).storage = s.storage := rfl
@[simp] theorem State.withPc_logs (s : State) (v : Nat) : (s.withPc v).logs = s.logs := rfl
@[simp] theorem State.withPc_reverted (s : State) (v : Nat) : (s.withPc v).reverted = s.reverted := rfl
@[simp] theorem State.withPc_selfdestructed (s : State) (v : Nat) : (s.withPc v).selfdestructed = s.selfdestructed := rfl
@[simp] theorem State.withPc_returndata (s : State) (v : Nat) : (s.withPc v).returndata = s.returndata := rfl
@[simp] theorem State.withPc_code (s : State) (v : Nat) : (s.withPc v).code = s.code := rfl
@[simp] theorem State.withPc_ctx (s : State) (v : Nat) : (s.withPc v).ctx = s.ctx := rfl
@[simp] theorem State.withPc_params (s : State) (v : Nat) : (s.withPc v).params = s.params := rfl
@[simp] theorem State.withPc_freeIndex (s : State) (v : Nat) : (s.withPc v).freeIndex = s.freeIndex := rfl
@[simp] theorem State.withPc_fetches (s : State) (v : Nat) : (s.withPc v).fetches = s.fetches := rfl

@[simp] theorem State.withStack_run (s : State) (v : List Word) : (s.withStack v).run = s.run := rfl
@[simp] theorem State.withStack_pc (s : State) (v : List Word) : (s.withStack v).pc = s.pc := rfl
@[simp] theorem State.withStack_stack (s : State) (v : List Word) : (s.withStack v).stack = v := rfl
@[simp] theorem State.withStack_mem (s : State) (v : List Word) : (s.withStack v).mem = s.mem := rfl
@[simp] theorem State.withStack_storage (s : State) (v : List Word) : (s.withStack v).storage = s.storage := rfl
@[simp] theorem State.withStack_logs (s : State) (v : List Word) : (s.withStack v).logs = s.logs := rfl
@[simp] theorem State.withStack_reverted (s : State) (v : List Word) : (s.withStack v).reverted = s.reverted := rfl
@[simp] theorem State.withStack_selfdestructed (s : State) (v : List Word) : (s.withStack v).selfdestructed = s.selfdestructed := rfl
@[simp] theorem State.withStack_returndata (s : State) (v : List Word) : (s.withStack v).returndata = s.returndata := rfl
@[simp] theorem State.withStack_code (s : State) (v : List Word) : (s.withStack v).code = s.code := rfl
@[simp] theorem State.withStack_ctx (s : State) (v : List Word) : (s.withStack v).ctx = s.ctx := rfl
@[simp] theorem State.withStack_params (s : State) (v : List Word) : (s.withStack v).params = s.params := rfl
@[simp] theorem State.withStack_freeIndex (s : State) (v : List Word) : (s.withStack v).freeIndex = s.freeIndex := rfl
@[simp] theorem State.withStack_fetches (s : State) (v : List Word) : (s.withStack v).fetches = s.fetches := rfl

@[simp] theorem State.withMem_run (s : State) (v : Memory) : (s.withMem v).run = s.run := rfl
@[simp] theorem State.withMem_pc (s : State) (v : Memory) : (s.withMem v).pc = s.pc := rfl
@[simp] theorem State.withMem_stack (s : State) (v : Memory) : (s.withMem v).stack = s.stack := rfl
@[simp] theorem State.withMem_mem (s : State) (v : Memory) : (s.withMem v).mem = v := rfl
@[simp] theorem State.withMem_storage (s : State) (v : Memory) : (s.withMem v).storage = s.storage := rfl
@[simp] theorem State.withMem_logs (s : State) (v : Memory) : (s.withMem v).logs = s.logs := rfl
@[simp] theorem State.withMem_reverted (s : State) (v : Memory) : (s.withMem v).reverted = s.reverted := rfl
@[simp] theorem State.withMem_selfdestructed (s : State) (v : Memory) : (s.withMem v).selfdestructed = s.selfdestructed := rfl
@[simp] theorem State.withMem_returndata (s : State) (v : Memory) : (s.withMem v).returndata = s.returndata := rfl
@[simp] theorem State.withMem_code (s : State) (v : Memory) : (s.withMem v).code = s.code := rfl
@[simp] theorem State.withMem_ctx (s : State) (v : Memory) : (s.withMem v).ctx = s.ctx := rfl
@[simp] theorem State.withMem_params (s : State) (v : Memory) : (s.withMem v).params = s.params := rfl
@[simp] theorem State.withMem_freeIndex (s : State) (v : Memory) : (s.withMem v).freeIndex = s.freeIndex := rfl
@[simp] theorem State.withMem_fetches (s : State) (v : Memory) : (s.withMem v).fetches = s.fetches := rfl

@[simp] theorem State.withStorage_run (s : State) (v : Storage) : (s.withStorage v).run = s.run := rfl
@[simp] theorem State.withStorage_pc (s : State) (v : Storage) : (s.withStorage v).pc = s.pc := rfl
@[simp] theorem State.withStorage_stack (s : State) (v : Storage) : (s.withStorage v).stack = s.stack := rfl
@[simp] theorem State.withStorage_mem (s : State) (v : Storage) : (s.withStorage v).mem = s.mem := rfl
@[simp] theorem State.withStorage_storage (s : State) (v : Storage) : (s.withStorage v).storage = v := rfl
@[simp] theorem State.withStorage_logs (s : State) (v : Storage) : (s.withStorage v).logs = s.logs := rfl
@[simp] theorem State.withStorage_reverted (s : State) (v : Storage) : (s.withStorage v).reverted = s.reverted := rfl
@[simp] theorem State.withStorage_selfdestructed (s : State) (v : Storage) : (s.withStorage v).selfdestructed = s.selfdestructed := rfl
@[simp] theorem State.withStorage_returndata (s : State) (v : Storage) : (s.withStorage v).returndata = s.returndata := rfl
@[simp] theorem State.withStorage_code (s : State) (v : Storage) : (s.withStorage v).code = s.code := rfl
@[simp] theorem State.withStorage_ctx (s : State) (v : Storage) : (s.withStorage v).ctx = s.ctx := rfl
@[simp] theorem State.withStorage_params (s : State) (v : Storage) : (s.withStorage v).params = s.params := rfl
@[simp] theorem State.withStorage_freeIndex (s : State) (v : Storage) : (s.withStorage v).freeIndex = s.freeIndex := rfl
@[simp] theorem State.withStorage_fetches (s : State) (v : Storage) : (s.withStorage v).fetches = s.fetches := rfl

@[simp] theorem State.withLogs_run (s : State) (v : List LogRecord) : (s.withLogs v).run = s.run := rfl
@[simp] theorem State.withLogs_pc (s : State) (v : List LogRecord) : (s.withLogs v).pc = s.pc := rfl
@[simp] theorem State.withLogs_stack (s : State) (v : List LogRecord) : (s.withLogs v).stack = s.stack := rfl
@[simp] theorem State.withLogs_mem (s : State) (v : List LogRecord) : (s.withLogs v).mem = s.mem := rfl
@[simp] theorem State.withLogs_storage (s : State) (v : List LogRecord) : (s.withLogs v).storage = s.storage := rfl
@[simp] theorem State.withLogs_logs (s : State) (v : List LogRecord) : (s.withLogs v).logs = v := rfl
@[simp] theorem State.withLogs_reverted (s : State) (v : List LogRecord) : (s.withLogs v).reverted = s.reverted := rfl
@[simp] theorem State.withLogs_selfdestructed (s : State) (v : List LogRecord) : (s.withLogs v).selfdestructed = s.selfdestructed := rfl
@[simp] theorem State.withLogs_returndata (s : State) (v : List LogRecord) : (s.withLogs v).returndata = s.returndata := rfl
@[simp] theorem State.withLogs_code (s : State) (v : List LogRecord) : (s.withLogs v).code = s.code := rfl
@[simp] theorem State.withLogs_ctx (s : State) (v : List LogRecord) : (s.withLogs v).ctx = s.ctx := rfl
@[simp] theorem State.withLogs_params (s : State) (v : List LogRecord) : (s.withLogs v).params = s.params := rfl
@[simp] theorem State.withLogs_freeIndex (s : State) (v : List LogRecord) : (s.withLogs v).freeIndex = s.freeIndex := rfl
@[simp] theorem State.withLogs_fetches (s : State) (v : List LogRecord) : (s.withLogs v).fetches = s.fetches := rfl

@[simp] theorem State.withReverted_run (s : State) (v : Bool) : (s.withReverted v).run = s.run := rfl
@[simp] theorem State.withReverted_pc (s : State) (v : Bool) : (s.withReverted v).pc = s.pc := rfl
@[simp] theorem State.withReverted_stack (s : State) (v : Bool) : (s.withReverted v).stack = s.stack := rfl
@[simp] theorem State.withReverted_mem (s : State) (v : Bool) : (s.withReverted v).mem = s.mem := rfl
@[simp] theorem State.withReverted_storage (s : State) (v : Bool) : (s.withReverted v).storage = s.storage := rfl
@[simp] theorem State.withReverted_logs (s : State) (v : Bool) : (s.withReverted v).logs = s.logs := rfl
@[simp] theorem State.withReverted_reverted (s : State) (v : Bool) : (s.withReverted v).reverted = v := rfl
@[simp] theorem State.withReverted_selfdestructed (s : State) (v : Bool) : (s.withReverted v).selfdestructed = s.selfdestructed := rfl
@[simp] theorem State.withReverted_returndata (s : State) (v : Bool) : (s.withReverted v).returndata = s.returndata := rfl
@[simp] theorem State.withReverted_code (s : State) (v : Bool) : (s.withReverted v).code = s.code := rfl
@[simp] theorem State.withReverted_ctx (s : State) (v : Bool) : (s.withReverted v).ctx = s.ctx := rfl
@[simp] theorem State.withReverted_params (s : State) (v : Bool) : (s.withReverted v).params = s.params := rfl
@[simp] theorem State.withReverted_freeIndex (s : State) (v : Bool) : (s.withReverted v).freeIndex = s.freeIndex := rfl
@[simp] theorem State.withReverted_fetches (s : State) (v : Bool) : (s.withReverted v).fetches = s.fetches := rfl

@[simp] theorem State.withSelfdestructed_run (s : State) (v : Bool) : (s.withSelfdestructed v).run = s.run := rfl
@[simp] theorem State.withSelfdestructed_pc (s : State) (v : Bool) : (s.withSelfdestructed v).pc = s.pc := rfl
@[simp] theorem State.withSelfdestructed_stack (s : State) (v : Bool) : (s.withSelfdestructed v).stack = s.stack := rfl
@[simp] theorem State.withSelfdestructed_mem (s : State) (v : Bool) : (s.withSelfdestructed v).mem = s.mem := rfl
@[simp] theorem State.withSelfdestructed_storage (s : State) (v : Bool) : (s.withSelfdestructed v).storage = s.storage := rfl
@[simp] theorem State.withSelfdestructed_logs (s : State) (v : Bool) : (s.withSelfdestructed v).logs = s.logs := rfl
@[simp] theorem State.withSelfdestructed_reverted (s : State) (v : Bool) : (s.withSelfdestructed v).reverted = s.reverted := rfl
@[simp] theorem State.withSelfdestructed_selfdestructed (s : State) (v : Bool) : (s.withSelfdestructed v).selfdestructed = v := rfl
@[simp] theorem State.withSelfdestructed_returndata (s : State) (v : Bool) : (s.withSelfdestructed v).returndata = s.returndata := rfl
@[simp] theorem State.withSelfdestructed_code (s : State) (v : Bool) : (s.withSelfdestructed v).code = s.code := rfl
@[simp] theorem State.withSelfdestructed_ctx (s : State) (v : Bool) : (s.withSelfdestructed v).ctx = s.ctx := rfl
@[simp] theorem State.withSelfdestructed_params (s : State) (v : Bool) : (s.withSelfdestructed v).params = s.params := rfl
@[simp] theorem State.withSelfdestructed_freeIndex (s : State) (v : Bool) : (s.withSelfdestructed v).freeIndex = s.freeIndex := rfl
@[simp] theorem State.withSelfdestructed_fetches (s : State) (v : Bool) : (s.withSelfdestructed v).fetches = s.fetches := rfl

@[simp] theorem State.withReturndata_run (s : State) (v : List Byte) : (s.withReturndata v).run = s.run := rfl
@[simp] theorem State.withReturndata_pc (s : State) (v : List Byte) : (s.withReturndata v).pc = s.pc := rfl
@[simp] theorem State.withReturndata_stack (s : State) (v : List Byte) : (s.withReturndata v).stack = s.stack := rfl
@[simp] theorem State.withReturndata_mem (s : State) (v : List Byte) : (s.withReturndata v).mem = s.mem := rfl
@[simp] theorem State.withReturndata_storage (s : State) (v : List Byte) : (s.withReturndata v).storage = s.storage := rfl
@[simp] theorem State.withReturndata_logs (s : State) (v : List Byte) : (s.withReturndata v).logs = s.logs := rfl
@[simp] theorem State.withReturndata_reverted (s : State) (v : List Byte) : (s.withReturndata v).reverted = s.reverted := rfl
@[simp] theorem State.withReturndata_selfdestructed (s : State) (v : List Byte) : (s.withReturndata v).selfdestructed = s.selfdestructed := rfl
@[simp] theorem State.withReturndata_returndata (s : State) (v : List Byte) : (s.withReturndata v).returndata = v := rfl
@[simp] theorem State.withReturndata_code (s : State) (v : List Byte) : (s.withReturndata v).code = s.code := rfl
@[simp] theorem State.withReturndata_ctx (s : State) (v : List Byte) : (s.withReturndata v).ctx = s.ctx := rfl
@[simp] theorem State.withReturndata_params (s : State) (v : List Byte) : (s.withReturndata v).params = s.params := rfl
@[simp] theorem State.withReturndata_freeIndex (s : State) (v : List Byte) : (s.withReturndata v).freeIndex = s.freeIndex := rfl
@[simp] theorem State.withReturndata_fetches (s : State) (v : List Byte) : (s.withReturndata v).fetches = s.fetches := rfl

@[simp] theorem State.withFreeIndex_run (s : State) (v : Nat) : (s.withFreeIndex v).run = s.run := rfl
@[simp] theorem State.withFreeIndex_pc (s : State) (v : Nat) : (s.withFreeIndex v).pc = s.pc := rfl
@[simp] theorem State.withFreeIndex_stack (s : State) (v : Nat) : (s.withFreeIndex v).stack = s.stack := rfl
@[simp] theorem State.withFreeIndex_mem (s : State) (v : Nat) : (s.withFreeIndex v).mem = s.mem := rfl
@[simp] theorem State.withFreeIndex_storage (s : State) (v : Nat) : (s.withFreeIndex v).storage = s.storage := rfl
@[simp] theorem State.withFreeIndex_logs (s : State) (v : Nat) : (s.withFreeIndex v).logs = s.logs := rfl
@[simp] theorem State.withFreeIndex_reverted (s : State) (v : Nat) : (s.withFreeIndex v).reverted = s.reverted := rfl
@[simp] theorem State.withFreeIndex_selfdestructed (s : State) (v : Nat) : (s.withFreeIndex v).selfdestructed = s.selfdestructed := rfl
@[simp] theorem State.withFreeIndex_returndata (s : State) (v : Nat) : (s.withFreeIndex v).returndata = s.returndata := rfl
@[simp] theorem State.withFreeIndex_code (s : State) (v : Nat) : (s.withFreeIndex v).code = s.code := rfl
@[simp] theorem State.withFreeIndex_ctx (s : State) (v : Nat) : (s.withFreeIndex v).ctx = s.ctx := rfl
@[simp] theorem State.withFreeIndex_params (s : State) (v : Nat) : (s.withFreeIndex v).params = s.params := rfl
@[simp] theorem State.withFreeIndex_freeIndex (s : State) (v : Nat) : (s.withFreeIndex v).freeIndex = v := rfl
@[simp] theorem State.withFreeIndex_fetches (s : State) (v : Nat) : (s.withFreeIndex v).fetches = s.fetches := rfl

@[simp] theorem State.withFetches_run (s : State) (v : List FetchRequest) : (s.withFetches v).run = s.run := rfl
@[simp] theorem State.withFetches_pc (s : State) (v : List FetchRequest) : (s.withFetches v).pc = s.pc := rfl
@[simp] theorem State.withFetches_stack (s : State) (v : List FetchRequest) : (s.withFetches v).stack = s.stack := rfl
@[simp] theorem State.withFetches_mem (s : State) (v : List FetchRequest) : (s.withFetches v).mem = s.mem := rfl
@[simp] theorem State.withFetches_storage (s : State) (v : List FetchRequest) : (s.withFetches v).storage = s.storage := rfl
@[simp] theorem State.withFetches_logs (s : State) (v : List FetchRequest) : (s.withFetches v).logs = s.logs := rfl
@[simp] theorem State.withFetches_reverted (s : State) (v : List FetchRequest) : (s.withFetches v).reverted = s.reverted := rfl
@[simp] theorem State.withFetches_selfdestructed (s : State) (v : List FetchRequest) : (s.withFetches v).selfdestructed = s.selfdestructed := rfl
@[simp] theorem State.withFetches_returndata (s : State) (v : List FetchRequest) : (s.withFetches v).returndata = s.returndata := rfl
@[simp] theorem State.withFetches_code (s : State) (v : List FetchRequest) : (s.withFetches v).code = s.code := rfl
@[simp] theorem State.withFetches_ctx (s : State) (v : List FetchRequest) : (s.withFetches v).ctx = s.ctx := rfl
@[simp] theorem State.withFetches_params (s : State) (v : List FetchRequest) : (s.withFetches v).params = s.params := rfl
@[simp] theorem State.withFetches_freeIndex (s : State) (v : List FetchRequest) : (s.withFetches v).freeIndex = s.freeIndex := rfl
@[simp] theorem State.withFetches_fetches (s : State) (v : List FetchRequest) : (s.withFetches v).fetches = v := rfl

@[simp] theorem State.withCode_run (s : State) (v : List Byte) : (s.withCode v).run = s.run := rfl
@[simp] theorem State.withCode_pc (s : State) (v : List Byte) : (s.withCode v).pc = s.pc := rfl
@[simp] theorem State.withCode_stack (s : State) (v : List Byte) : (s.withCode v).stack = s.stack := rfl
@[simp] theorem State.withCode_mem (s : State) (v : List Byte) : (s.withCode v).mem = s.mem := rfl
@[simp] theorem State.withCode_storage (s : State) (v : List Byte) : (s.withCode v).storage = s.storage := rfl
@[simp] theorem State.withCode_logs (s : State) (v : List Byte) : (s.withCode v).logs = s.logs := rfl
@[simp] theorem State.withCode_reverted (s : State) (v : List Byte) : (s.withCode v).reverted = s.reverted := rfl
@[simp] theorem State.withCode_selfdestructed (s : State) (v : List Byte) : (s.withCode v).selfdestructed = s.selfdestructed := rfl
@[simp] theorem State.withCode_returndata (s : State) (v : List Byte) : (s.withCode v).returndata = s.returndata := rfl
@[simp] theorem State.withCode_code (s : State) (v : List Byte) : (s.withCode v).code = v := rfl
@[simp] theorem State.withCode_ctx (s : State) (v : List Byte) : (s.withCode v).ctx = s.ctx := rfl
@[simp] theorem State.withCode_params (s : State) (v : List Byte) : (s.withCode v).params = s.params := rfl
@[simp] theorem State.withCode_freeIndex (s : State) (v : List Byte) : (s.withCode v).freeIndex = s.freeIndex := rfl
@[simp] theorem State.withCode_fetches (s : State) (v : List Byte) : (s.withCode v).fetches = s.fetches := rfl

@[simp] theorem faultState_run (k : ErrorKind) (s : State) : (faultState k s).run = .faulted k := rfl
@[simp] theorem faultState_code (k : ErrorKind) (s : State) : (faultState k s).code = s.code := rfl
@[simp] theorem faultState_ctx (k : ErrorKind) (s : State) : (faultState k s).ctx = s.ctx := rfl
@[simp] theorem faultState_params (k : ErrorKind) (s : State) : (faultState k s).params = s.params := rfl
@[simp] theorem faultState_fetches (k : ErrorKind) (s : State) : (faultState k s).fetches = s.fetches := rfl
@[simp] theorem faultState_freeIndex (k : ErrorKind) (s : State) : (faultState k s).freeIndex = s.freeIndex + 1 := rfl

/-! A fault discards what the step did to any other component before it (40_dispatch.md R116). -/

@[simp] theorem faultState_withRun (k : ErrorKind) (s : State) (v : Run) : faultState k (s.withRun v) = faultState k s := rfl
@[simp] theorem raise_withRun (k : ErrorKind) (s : State) (v : Run) : raise k (s.withRun v) = raise k s := rfl
@[simp] theorem faultState_withPc (k : ErrorKind) (s : State) (v : Nat) : faultState k (s.withPc v) = faultState k s := rfl
@[simp] theorem raise_withPc (k : ErrorKind) (s : State) (v : Nat) : raise k (s.withPc v) = raise k s := rfl
@[simp] theorem faultState_withStack (k : ErrorKind) (s : State) (v : List Word) : faultState k (s.withStack v) = faultState k s := rfl
@[simp] theorem raise_withStack (k : ErrorKind) (s : State) (v : List Word) : raise k (s.withStack v) = raise k s := rfl
@[simp] theorem faultState_withMem (k : ErrorKind) (s : State) (v : Memory) : faultState k (s.withMem v) = faultState k s := rfl
@[simp] theorem raise_withMem (k : ErrorKind) (s : State) (v : Memory) : raise k (s.withMem v) = raise k s := rfl
@[simp] theorem faultState_withStorage (k : ErrorKind) (s : State) (v : Storage) : faultState k (s.withStorage v) = faultState k s := rfl
@[simp] theorem raise_withStorage (k : ErrorKind) (s : State) (v : Storage) : raise k (s.withStorage v) = raise k s := rfl
@[simp] theorem faultState_withLogs (k : ErrorKind) (s : State) (v : List LogRecord) : faultState k (s.withLogs v) = faultState k s := rfl
@[simp] theorem raise_withLogs (k : ErrorKind) (s : State) (v : List LogRecord) : raise k (s.withLogs v) = raise k s := rfl
@[simp] theorem faultState_withReverted (k : ErrorKind) (s : State) (v : Bool) : faultState k (s.withReverted v) = faultState k s := rfl
@[simp] theorem raise_withReverted (k : ErrorKind) (s : State) (v : Bool) : raise k (s.withReverted v) = raise k s := rfl
@[simp] theorem faultState_withSelfdestructed (k : ErrorKind) (s : State) (v : Bool) : faultState k (s.withSelfdestructed v) = faultState k s := rfl
@[simp] theorem raise_withSelfdestructed (k : ErrorKind) (s : State) (v : Bool) : raise k (s.withSelfdestructed v) = raise k s := rfl
@[simp] theorem faultState_withReturndata (k : ErrorKind) (s : State) (v : List Byte) : faultState k (s.withReturndata v) = faultState k s := rfl
@[simp] theorem raise_withReturndata (k : ErrorKind) (s : State) (v : List Byte) : raise k (s.withReturndata v) = raise k s := rfl

end Sys2Proof.Machine
end

