-- ==== Sys2Proof/Laws/Storage.lean ====
section
/-! SUPPORT. The storage cache: finding after inserting, and that every operation keeps the canonical form. -/

namespace Sys2Proof.Machine

theorem entryFind_entryInsert_same (es : List (Word × Word)) (key value : Word) :
    entryFind (entryInsert es key value) key = some value := by
  induction es with
  | nil => simp [entryInsert, entryFind]
  | cons e rest ih =>
    obtain ⟨k, v⟩ := e
    by_cases hlt : key.toNat < k.toNat
    · simp [entryInsert, hlt, entryFind]
    · by_cases heq : key = k
      · simp [entryInsert, heq, entryFind]
      · simpa [entryInsert, hlt, heq, entryFind] using ih

theorem entryFind_entryInsert_other (es : List (Word × Word)) (key value other : Word) (h : other ≠ key) :
    entryFind (entryInsert es key value) other = entryFind es other := by
  induction es with
  | nil => simp [entryInsert, entryFind, h]
  | cons e rest ih =>
    obtain ⟨k, v⟩ := e
    by_cases hlt : key.toNat < k.toNat
    · simp [entryInsert, hlt, entryFind, h]
    · by_cases heq : key = k
      · subst heq
        simp [entryInsert, entryFind, h]
      · simp only [entryInsert, hlt, heq, if_false, entryFind, ih]

theorem mem_entryInsert {es : List (Word × Word)} {key value : Word} {e : Word × Word}
    (h : e ∈ entryInsert es key value) : e ∈ es ∨ e = (key, value) := by
  induction es with
  | nil => simpa [entryInsert] using h
  | cons d rest ih =>
    obtain ⟨k, v⟩ := d
    by_cases hlt : key.toNat < k.toNat
    · simp only [entryInsert, hlt, if_true] at h
      rcases List.mem_cons.mp h with h | h
      · exact .inr h
      · exact .inl h
    · by_cases heq : key = k
      · simp only [entryInsert, heq, if_true] at h
        rw [← heq] at h
        simp only [Nat.lt_irrefl, if_false] at h
        rcases List.mem_cons.mp h with h | h
        · exact .inr h
        · exact .inl (List.mem_cons_of_mem _ h)
      · simp only [entryInsert, hlt, heq, if_false] at h
        rcases List.mem_cons.mp h with rfl | h
        · exact .inl (by simp)
        · rcases ih h with h | h
          · exact .inl (List.mem_cons_of_mem _ h)
          · exact .inr h

theorem entryInsert_rising (es : List (Word × Word)) (key value : Word)
    (h : es.Pairwise (fun a b => a.1.toNat < b.1.toNat)) :
    (entryInsert es key value).Pairwise (fun a b => a.1.toNat < b.1.toNat) := by
  induction es with
  | nil => simp [entryInsert]
  | cons d rest ih =>
    obtain ⟨k, v⟩ := d
    obtain ⟨hk, hr⟩ := List.pairwise_cons.mp h
    by_cases hlt : key.toNat < k.toNat
    · simp only [entryInsert, hlt, if_true]
      refine List.pairwise_cons.mpr ⟨fun c hc => ?_, h⟩
      rcases List.mem_cons.mp hc with rfl | hc
      · exact hlt
      · exact Nat.lt_trans hlt (hk c hc)
    · by_cases heq : key = k
      · subst heq
        simp only [entryInsert, Nat.lt_irrefl, if_true, if_false]
        exact List.pairwise_cons.mpr ⟨hk, hr⟩
      · have hgt : k.toNat < key.toNat := by
          have : key.toNat ≠ k.toNat := fun hh => heq (BitVec.eq_of_toNat_eq hh)
          omega
        simp only [entryInsert, hlt, heq, if_false]
        refine List.pairwise_cons.mpr ⟨fun c hc => ?_, ih hr⟩
        rcases mem_entryInsert hc with hc | rfl
        · exact hk c hc
        · exact hgt

@[simp] theorem Storage.find_insert_same (m : Storage) (key value : Word) : (m.insert key value).find key = some value :=
  entryFind_entryInsert_same m.entries key value

theorem Storage.find_insert_other (m : Storage) (key value other : Word) (h : other ≠ key) :
    (m.insert key value).find other = m.find other :=
  entryFind_entryInsert_other m.entries key value other h

theorem Storage.insert_wf (m : Storage) (key value : Word) (h : m.wf) : (m.insert key value).wf :=
  entryInsert_rising m.entries key value h

/-- A list of pairs extended at its end: the pair added counts. -/
theorem Storage.ofList_append_singleton (pairs : List (Word × Word)) (p : Word × Word) :
    Storage.ofList (pairs ++ [p]) = (Storage.ofList pairs).insert p.1 p.2 := by
  simp [Storage.ofList, List.foldl_append]

/-- A key that no pair lists is absent. -/
theorem Storage.find_ofList_absent (pairs : List (Word × Word)) (key : Word) (h : ∀ p ∈ pairs, p.1 ≠ key) :
    (Storage.ofList pairs).find key = none := by
  induction pairs using List.reverseRecOn with
  | nil => rfl
  | append_singleton pairs p ih =>
    rw [Storage.ofList_append_singleton, Storage.find_insert_other _ _ _ _ fun e => h p (by simp) e.symm]
    exact ih fun q hq => h q (by simp [hq])

/-- A listed key is present with the value of its last pair. -/
theorem Storage.find_ofList_last (before after : List (Word × Word)) (key value : Word) (h : ∀ p ∈ after, p.1 ≠ key) :
    (Storage.ofList (before ++ (key, value) :: after)).find key = some value := by
  induction after using List.reverseRecOn with
  | nil => rw [Storage.ofList_append_singleton, Storage.find_insert_same]
  | append_singleton after p ih =>
    rw [← List.cons_append, ← List.append_assoc, Storage.ofList_append_singleton,
      Storage.find_insert_other _ _ _ _ fun e => h p (by simp) e.symm]
    exact ih fun q hq => h q (by simp [hq])

theorem Storage.ofList_wf (pairs : List (Word × Word)) : (Storage.ofList pairs).wf := by
  have keep : ∀ (ps : List (Word × Word)) (m : Storage), m.wf →
      (ps.foldl (fun m p => m.insert p.1 p.2) m).wf := by
    intro ps
    induction ps with
    | nil => exact fun _ h => h
    | cons p ps ih => exact fun m h => ih _ (m.insert_wf p.1 p.2 h)
  exact keep pairs _ List.Pairwise.nil

end Sys2Proof.Machine
end

