-- ==== Sys2Proof/Laws/Ops.lean ====
section
/-! SUPPORT. The shared operations: for each, what it does when its condition holds, and one `_cases` lemma that says
everything it can do. -/

namespace Sys2Proof.Machine

/-! ## Capacity -/

theorem stackFits_of_le {p : Params} {d e : Nat} (h : stackFits p d = true) (he : e ≤ d) : stackFits p e = true := by
  unfold stackFits at *
  split at h <;> simp_all
  omega

theorem memFits_of_le {p : Params} {d e : Nat} (h : memFits p d = true) (he : e ≤ d) : memFits p e = true := by
  unfold memFits at *
  split at h <;> simp_all
  omega

theorem stackFits_none {p : Params} (h : p.stackCapacity = none) (d : Nat) : stackFits p d = true := by
  simp [stackFits, h]

theorem memFits_none {p : Params} (h : p.memCapacity = none) (n : Nat) : memFits p n = true := by
  simp [memFits, h]

/-! ## Stack -/

theorem pop_nil {s : State} (h : s.stack = []) (k : Word → State → Out) : pop s k = raise .stackUnderflow s := by
  simp [pop, h]

theorem pop_cons {s : State} {v : Word} {rest : List Word} (h : s.stack = v :: rest) (k : Word → State → Out) :
    pop s k = k v (s.withStack rest) := by
  simp [pop, h]

theorem pop_cases (s : State) (k : Word → State → Out) :
    (s.stack = [] ∧ pop s k = raise .stackUnderflow s) ∨
    ∃ v rest, s.stack = v :: rest ∧ pop s k = k v (s.withStack rest) := by
  cases h : s.stack with
  | nil => exact .inl ⟨rfl, pop_nil h k⟩
  | cons v rest => exact .inr ⟨v, rest, rfl, pop_cons h k⟩

theorem push_fits {v : Word} {s : State} (h : stackFits s.params (s.stack.length + 1) = true) (k : State → Out) :
    push v s k = k (s.withStack (v :: s.stack)) := by
  simp [push, h]

theorem push_cases (v : Word) (s : State) (k : State → Out) :
    (stackFits s.params (s.stack.length + 1) = true ∧ push v s k = k (s.withStack (v :: s.stack))) ∨
    (stackFits s.params (s.stack.length + 1) = false ∧ push v s k = .fault .stackCapacityExceeded) := by
  cases h : stackFits s.params (s.stack.length + 1) <;> simp [push, h]

theorem peek_cases (i : Nat) (s : State) (k : Word → Out) :
    (s.stack.length ≤ i ∧ peek i s k = raise .stackUnderflow s) ∨
    ∃ v, s.stack[i]? = some v ∧ peek i s k = k v := by
  cases h : s.stack[i]? with
  | none => exact .inl ⟨by simpa using h, by simp [peek, h]⟩
  | some v => exact .inr ⟨v, rfl, by simp [peek, h]⟩

theorem setEntry_cases (i : Nat) (v : Word) (s : State) (k : State → Out) :
    (i < s.stack.length ∧ setEntry i v s k = k (s.withStack (s.stack.set i v))) ∨
    (s.stack.length ≤ i ∧ setEntry i v s k = raise .stackUnderflow s) := by
  by_cases h : i < s.stack.length
  · exact .inl ⟨h, by simp [setEntry, h]⟩
  · exact .inr ⟨by omega, by simp [setEntry, h]⟩

theorem swapTop_cases (i : Nat) (s : State) (k : State → Out) :
    (s.stack.length ≤ i ∧ swapTop i s k = raise .stackUnderflow s) ∨
    ∃ v t, s.stack[i]? = some v ∧ s.stack[0]? = some t ∧
      swapTop i s k = k (s.withStack ((s.stack.set 0 v).set i t)) := by
  unfold swapTop
  rcases peek_cases i s _ with ⟨h, e⟩ | ⟨v, h, e⟩
  · exact .inl ⟨h, e⟩
  · have hi : i < s.stack.length := (List.getElem?_eq_some_iff.mp h).1
    rcases peek_cases 0 s (fun t => setEntry 0 v s fun s => setEntry i t s k) with ⟨h0, -⟩ | ⟨t, h0, e0⟩
    · omega
    · refine .inr ⟨v, t, h, h0, ?_⟩
      rw [e, e0]
      rcases setEntry_cases 0 v s (fun s => setEntry i t s k) with ⟨h1, e1⟩ | ⟨h1, -⟩
      · rw [e1]
        rcases setEntry_cases i t (s.withStack (s.stack.set 0 v)) k with ⟨h2, e2⟩ | ⟨h2, -⟩
        · rw [e2]; rfl
        · simp at h2; omega
      · omega

theorem popMany_cases (n : Nat) (s : State) (k : List Word → State → Out) :
    (s.stack.length < n ∧ popMany n s k = raise .stackUnderflow s) ∨
    (n ≤ s.stack.length ∧ popMany n s k = k (s.stack.take n) (s.withStack (s.stack.drop n))) := by
  induction n generalizing s k with
  | zero => exact .inr ⟨by omega, by simp [popMany]; rfl⟩
  | succ n ih =>
    unfold popMany
    rcases pop_cases s (fun v s => popMany n s fun vs s => k (v :: vs) s) with ⟨h, e⟩ | ⟨v, rest, h, e⟩
    · exact .inl ⟨by simp [h], e⟩
    · rcases ih (s.withStack rest) (fun vs s => k (v :: vs) s) with ⟨h1, e1⟩ | ⟨h1, e1⟩
      · exact .inl ⟨by simpa [h] using h1, by rw [e, e1]; rfl⟩
      · refine .inr ⟨by simpa [h] using h1, ?_⟩
        rw [e, e1, h]
        simp [State.withStack]

theorem popTwo_cases (s : State) (k : Word → Word → State → Out) :
    (s.stack.length < 2 ∧ popTwo s k = raise .stackUnderflow s) ∨
    ∃ a b rest, s.stack = a :: b :: rest ∧ popTwo s k = k a b (s.withStack rest) := by
  match h : s.stack with
  | [] => exact .inl ⟨by simp, by simp [popTwo, pop, h]⟩
  | [a] => exact .inl ⟨by simp, by simp [popTwo, pop, h]⟩
  | a :: b :: rest => exact .inr ⟨a, b, rest, rfl, by simp [popTwo, pop, h]; rfl⟩

theorem popThree_cases (s : State) (k : Word → Word → Word → State → Out) :
    (s.stack.length < 3 ∧ popThree s k = raise .stackUnderflow s) ∨
    ∃ a b c rest, s.stack = a :: b :: c :: rest ∧ popThree s k = k a b c (s.withStack rest) := by
  match h : s.stack with
  | [] => exact .inl ⟨by simp, by simp [popThree, pop, h]⟩
  | [a] => exact .inl ⟨by simp, by simp [popThree, pop, h]⟩
  | [a, b] => exact .inl ⟨by simp, by simp [popThree, pop, h]⟩
  | a :: b :: c :: rest => exact .inr ⟨a, b, c, rest, rfl, by simp [popThree, pop, h]; rfl⟩

theorem popTwo_eq {s : State} {a b : Word} {rest : List Word} (h : s.stack = a :: b :: rest)
    (k : Word → Word → State → Out) : popTwo s k = k a b (s.withStack rest) := by
  simp [popTwo, pop, h]; rfl

theorem popThree_eq {s : State} {a b c : Word} {rest : List Word} (h : s.stack = a :: b :: c :: rest)
    (k : Word → Word → Word → State → Out) : popThree s k = k a b c (s.withStack rest) := by
  simp [popThree, pop, h]; rfl

theorem pushResult_cases (v : Word) (s : State) :
    (stackFits s.params (s.stack.length + 1) = true ∧
      pushResult v s = .next ((s.withStack (v :: s.stack)).withPc (s.pc + 1))) ∨
    (stackFits s.params (s.stack.length + 1) = false ∧ pushResult v s = .fault .stackCapacityExceeded) :=
  push_cases v s (advance 1)

/-! ## Conversion -/

theorem toIndex_ok {w : Word} (h : w.toNat < 2 ^ 32) (s : State) (k : Nat → Out) : toIndex w s k = k w.toNat := by
  rw [toIndex, auToU32_ok w h]; rfl

theorem toIndex_overflow {w : Word} (h : ¬ w.toNat < 2 ^ 32) (s : State) (k : Nat → Out) :
    toIndex w s k = raise .conversionOverflow s := by
  rw [toIndex, auToU32_error w h]; rfl

theorem toIndex_cases (w : Word) (s : State) (k : Nat → Out) :
    (w.toNat < 2 ^ 32 ∧ toIndex w s k = k w.toNat) ∨
    (¬ w.toNat < 2 ^ 32 ∧ toIndex w s k = raise .conversionOverflow s) := by
  by_cases h : w.toNat < 2 ^ 32
  · exact .inl ⟨h, toIndex_ok h s k⟩
  · exact .inr ⟨h, toIndex_overflow h s k⟩

/-! ## Data memory -/

/-- The memory after `cover(o, n)`, when the capacity allows it. -/
def coveredMem (s : State) (o n : Nat) : Memory :=
  if 0 < n ∨ s.params.zeroSizeExpands = true then s.mem.grown (o + n) else s.mem

@[simp] theorem coveredMem_byte (s : State) (o n a : Nat) : (coveredMem s o n).byte a = s.mem.byte a := by
  unfold coveredMem; split <;> simp

theorem coveredMem_wf (s : State) (o n : Nat) (h : s.mem.wf) : (coveredMem s o n).wf := by
  unfold coveredMem; split
  · exact s.mem.grown_wf _ h
  · exact h

theorem coveredMem_size_ge (s : State) (o n : Nat) : s.mem.size ≤ (coveredMem s o n).size := by
  unfold coveredMem; split
  · rw [Memory.grown_size]; exact Nat.le_max_left _ _
  · exact Nat.le_refl _

theorem coveredMem_covers (s : State) (o n : Nat) (h : 0 < n) : o + n ≤ (coveredMem s o n).size := by
  unfold coveredMem
  rw [if_pos (.inl h)]
  exact s.mem.grown_covers _

theorem coveredMem_granular (s : State) (o n : Nat) (h : s.mem.size % memGranule = 0) :
    (coveredMem s o n).size % memGranule = 0 := by
  unfold coveredMem; split
  · rw [Memory.grown_size]
    rcases Nat.le_total s.mem.size (roundUp (o + n)) with hh | hh
    · rw [Nat.max_eq_right hh, roundUp_mod]
    · rw [Nat.max_eq_left hh, h]
  · exact h

theorem expand_cases (n : Nat) (s : State) (k : State → Out) :
    (expand n s k = k (s.withMem (s.mem.grown n)) ∧
      (memFits s.params s.mem.size = true → memFits s.params (s.mem.grown n).size = true)) ∨
    (memFits s.params (roundUp n) = false ∧ s.mem.size < roundUp n ∧ expand n s k = .fault .memCapacityExceeded) := by
  unfold expand
  by_cases h : roundUp n > s.mem.size
  · cases hf : memFits s.params (roundUp n) with
    | true =>
      refine .inl ⟨by simp [h], fun _ => ?_⟩
      rw [Memory.grown_size, Nat.max_eq_right (Nat.le_of_lt h), hf]
    | false => exact .inr ⟨rfl, h, by simp [h]⟩
  · have hg : s.mem.grown n = s.mem := s.mem.grown_of_le n (by omega)
    refine .inl ⟨?_, fun hm => by rw [hg]; exact hm⟩
    rw [if_neg h, hg]
    rfl

/-- `cover(o, n)` would make memory longer than a finite capacity holds. -/
abbrev Overfull (s : State) (o n : Nat) : Prop :=
  s.mem.size < (coveredMem s o n).size ∧ memFits s.params (coveredMem s o n).size = false

theorem cover_cases (o n : Nat) (s : State) (k : State → Out) :
    (¬ Overfull s o n ∧ cover o n s k = k (s.withMem (coveredMem s o n))) ∨
    (Overfull s o n ∧ cover o n s k = .fault .memCapacityExceeded) := by
  unfold cover Overfull coveredMem
  by_cases h : 0 < n ∨ s.params.zeroSizeExpands = true
  · simp only [if_pos h, Memory.grown_size]
    unfold expand
    by_cases hg : roundUp (o + n) > s.mem.size
    · cases hf : memFits s.params (roundUp (o + n)) <;> simp [hg, Nat.max_eq_right (Nat.le_of_lt hg), hf]
    · exact .inl ⟨by omega, by rw [if_neg hg, s.mem.grown_of_le _ (by omega)]; rfl⟩
  · simp only [if_neg h]
    exact .inl ⟨by omega, rfl⟩

theorem cover_fits {o n : Nat} {s : State} (h : ¬ Overfull s o n) (k : State → Out) :
    cover o n s k = k (s.withMem (coveredMem s o n)) :=
  ((cover_cases o n s k).resolve_right fun h' => h h'.1).2

theorem cover_overfull {o n : Nat} {s : State} (h : Overfull s o n) (k : State → Out) :
    cover o n s k = .fault .memCapacityExceeded :=
  ((cover_cases o n s k).resolve_left fun h' => h'.1 h).2

/-- A memory within its capacity stays within it. -/
theorem memFits_of_not_overfull {s : State} {o n : Nat} (h : ¬ Overfull s o n) (hs : memFits s.params s.mem.size = true) :
    memFits s.params (coveredMem s o n).size = true := by
  rcases Nat.eq_or_lt_of_le (coveredMem_size_ge s o n) with e | hlt
  · rw [← e]; exact hs
  · simpa [hlt] using h

/-- A read whose range is covered, or of no bytes at all, gives the bytes of memory. -/
theorem memRead_covered {o n : Nat} {s : State} (h : n = 0 ∨ o + n ≤ s.mem.size) (k : List Byte → Out) :
    memRead o n s k = k (s.mem.read o n) := by
  unfold memRead
  by_cases hn : n = 0
  · subst hn; simp [Memory.read]
  · rw [if_neg hn, if_pos (h.resolve_left hn)]

theorem memWrite_covered {o : Nat} {bs : List Byte} {s : State} (h : bs.length = 0 ∨ o + bs.length ≤ s.mem.size)
    (k : State → Out) : memWrite o bs s k = k (s.withMem (s.mem.write o bs)) := by
  unfold memWrite
  by_cases hn : bs.length = 0
  · have : bs = [] := by simpa using hn
    subst this; rfl
  · rw [if_neg hn, if_pos (h.resolve_left hn)]

/-- Covering a range and then reading it. -/
theorem cover_memRead_cases (o n : Nat) (s : State) (k : List Byte → State → Out) :
    (¬ Overfull s o n ∧ cover o n s (fun s => memRead o n s fun bs => k bs s) =
        k (s.mem.read o n) (s.withMem (coveredMem s o n))) ∨
    (Overfull s o n ∧
      cover o n s (fun s => memRead o n s fun bs => k bs s) = .fault .memCapacityExceeded) := by
  rcases cover_cases o n s (fun s => memRead o n s fun bs => k bs s) with ⟨hf, e⟩ | h
  · refine .inl ⟨hf, ?_⟩
    rw [e, memRead_covered]
    · simp [Memory.read]
    · rcases Nat.eq_zero_or_pos n with h0 | h0
      · exact .inl h0
      · exact .inr (by simpa using coveredMem_covers s o n h0)
  · exact .inr h

/-- Covering a range and then writing it. -/
theorem cover_memWrite_cases (o : Nat) (bs : List Byte) (n : Nat) (hn : n = bs.length) (s : State) (k : State → Out) :
    (¬ Overfull s o n ∧ cover o n s (fun s => memWrite o bs s k) =
        k (s.withMem ((coveredMem s o n).write o bs))) ∨
    (Overfull s o n ∧
      cover o n s (fun s => memWrite o bs s k) = .fault .memCapacityExceeded) := by
  rcases cover_cases o n s (fun s => memWrite o bs s k) with ⟨hf, e⟩ | h
  · refine .inl ⟨hf, ?_⟩
    rw [e, memWrite_covered]
    · rfl
    · rcases Nat.eq_zero_or_pos n with h0 | h0
      · exact .inl (by omega)
      · exact .inr (by subst hn; simpa using coveredMem_covers s o bs.length h0)
  · exact .inr h

/-- The offset and size operands of a ranged access, and the bytes read. -/
theorem popRange_cases (s : State) (k : List Byte → State → Out) :
    (s.stack.length < 2 ∧ popRange s k = raise .stackUnderflow s) ∨
    ∃ offset size rest, s.stack = offset :: size :: rest ∧
      ((¬ (offset.toNat < 2 ^ 32 ∧ size.toNat < 2 ^ 32) ∧ popRange s k = raise .conversionOverflow s) ∨
       (offset.toNat < 2 ^ 32 ∧ size.toNat < 2 ^ 32 ∧
        ((¬ Overfull s offset.toNat size.toNat ∧
            popRange s k = k (s.mem.read offset.toNat size.toNat)
              ((s.withStack rest).withMem (coveredMem s offset.toNat size.toNat))) ∨
         (Overfull s offset.toNat size.toNat ∧ popRange s k = .fault .memCapacityExceeded)))) := by
  unfold popRange
  rcases popTwo_cases s _ with ⟨h, e⟩ | ⟨offset, size, rest, h, e⟩
  · exact .inl ⟨h, e⟩
  · refine .inr ⟨offset, size, rest, h, ?_⟩
    rw [e]
    rcases toIndex_cases offset (s.withStack rest) _ with ⟨ho, e1⟩ | ⟨ho, e1⟩
    · rw [e1]
      rcases toIndex_cases size (s.withStack rest) _ with ⟨hn, e2⟩ | ⟨hn, e2⟩
      · refine .inr ⟨ho, hn, ?_⟩
        rw [e2]
        rcases cover_memRead_cases offset.toNat size.toNat (s.withStack rest) k with h3 | h3
        · exact .inl h3
        · exact .inr h3
      · exact .inl ⟨fun hh => hn hh.2, by rw [e2]; rfl⟩
    · exact .inl ⟨fun hh => ho hh.1, by rw [e1]; rfl⟩

/-! ## Storage -/

theorem loadKey_present {s : State} {key v : Word} (h : s.storage.find key = some v) (k : Word → State → Out) :
    loadKey key s k = k v s := by
  simp [loadKey, h]

theorem loadKey_cases (key : Word) (s : State) (k : Word → State → Out) :
    (∃ v, s.storage.find key = some v ∧ loadKey key s k = k v s) ∨
    (s.storage.find key = none ∧
      ((∃ r, Config.fetchStorage s.freeIndex (fetchRequest s key) = .found r ∧
          loadKey key s k = k r ((afterRequest s key).withStorage (s.storage.insert key r))) ∨
       (Config.fetchStorage s.freeIndex (fetchRequest s key) = .failure ∧
          loadKey key s k = raise .dataSourceFailure (afterRequest s key)) ∨
       (Config.fetchStorage s.freeIndex (fetchRequest s key) = .noAnswer ∧
          loadKey key s k = .fault .dataSourceNeverAnswers))) := by
  cases h : s.storage.find key with
  | some v => exact .inl ⟨v, rfl, loadKey_present h k⟩
  | none =>
    refine .inr ⟨rfl, ?_⟩
    have e : loadKey key s k =
        onAnswer (Config.fetchStorage s.freeIndex (fetchRequest s key)) key (afterRequest s key) k := by
      simp [loadKey, h]
    rw [e]
    cases ha : Config.fetchStorage s.freeIndex (fetchRequest s key) with
    | found r => exact .inl ⟨r, rfl, rfl⟩
    | failure => exact .inr (.inl ⟨rfl, rfl⟩)
    | noAnswer => exact .inr (.inr ⟨rfl, rfl⟩)

/-! ## Code and fetch -/

@[simp] theorem bytesFrom_length (bs : List Byte) (start n : Nat) : (bytesFrom bs start n).length = n := by
  simp [bytesFrom]

theorem fetchInstr_cases (s : State) (k : Instr → Out) :
    (s.code.length ≤ s.pc ∧ fetchInstr s k = raise .noMoreInstructions s) ∨
    ∃ op following, s.code.drop s.pc = op :: following ∧ fetchInstr s k = k (decodeInstr op following).1 := by
  cases h : s.code.drop s.pc with
  | nil => exact .inl ⟨by simpa using h, by simp [fetchInstr, h, decode]⟩
  | cons op following => exact .inr ⟨op, following, rfl, by simp [fetchInstr, h, decode]⟩

theorem pushImmediate_cases (n : Nat) (imm : List Byte) (s : State) :
    (s.code.length ≤ s.pc + n ∧ pushImmediate n imm s = raise .noMoreInstructions s) ∨
    (s.pc + n < s.code.length ∧ 32 < imm.length ∧ pushImmediate n imm s = raise .constructionOverflow s) ∨
    (s.pc + n < s.code.length ∧ imm.length ≤ 32 ∧
      ((stackFits s.params (s.stack.length + 1) = true ∧
        pushImmediate n imm s =
          .next ((s.withStack (W (natOfBytes imm) :: s.stack)).withPc (s.pc + (1 + n)))) ∨
       (stackFits s.params (s.stack.length + 1) = false ∧
        pushImmediate n imm s = .fault .stackCapacityExceeded))) := by
  unfold pushImmediate
  by_cases h : s.pc + n ≥ s.code.length
  · exact .inl ⟨h, by rw [if_pos h]⟩
  · rw [if_neg h]
    by_cases hl : imm.length ≤ 32
    · refine .inr (.inr ⟨by omega, hl, ?_⟩)
      rw [auWord_ok imm hl]
      exact push_cases _ s (advance (1 + n))
    · exact .inr (.inl ⟨by omega, by omega, by rw [auWord_error imm (by omega)]; rfl⟩)

end Sys2Proof.Machine
end

