-- ==== Sys2Proof/Laws/Post.lean ====
section
/-! SUPPORT. A postcondition of an outcome, and for each shared operation the conditions under which it holds after it: a proof
about every instruction goes through these and unfolds no operation. -/

namespace Sys2Proof.Machine

/-- `P` holds of the next state, `Q` of the reason the machine is stuck, and nothing is refused. -/
def post (P : State → Prop) (Q : Fault → Prop) : Out → Prop
  | .next t => P t
  | .fault f => Q f
  | .refused _ => False

variable {P : State → Prop} {Q : Fault → Prop} {s : State}

theorem post_next {o : Out} {t : State} (h : post P Q o) (e : o = .next t) : P t := by subst e; exact h

theorem post_fault {o : Out} {f : Fault} (h : post P Q o) (e : o = .fault f) : Q f := by subst e; exact h

theorem post_refused {o : Out} {r : Refusal} (h : post P Q o) : o ≠ .refused r := by rintro rfl; exact h

/-- `P` holds after every fault taken under the run parameters of `s`. -/
abbrev AfterFaults (P : State → Prop) (s : State) : Prop :=
  ∀ (k : ErrorKind) (s' : State), s'.code = s.code → s'.ctx = s.ctx → s'.params = s.params → P (faultState k s')

theorem post_raise {k : ErrorKind} (h : AfterFaults P s) : post P Q (raise k s) := h k s rfl rfl rfl

theorem post_pop {k : Word → State → Out} (h : AfterFaults P s)
    (hk : ∀ v rest, s.stack = v :: rest → post P Q (k v (s.withStack rest))) : post P Q (pop s k) := by
  rcases pop_cases s k with ⟨-, e⟩ | ⟨v, rest, hs, e⟩ <;> rw [e]
  · exact post_raise h
  · exact hk v rest hs

theorem post_popTwo {k : Word → Word → State → Out} (h : AfterFaults P s)
    (hk : ∀ a b rest, s.stack = a :: b :: rest → post P Q (k a b (s.withStack rest))) : post P Q (popTwo s k) := by
  rcases popTwo_cases s k with ⟨-, e⟩ | ⟨a, b, rest, hs, e⟩ <;> rw [e]
  · exact post_raise h
  · exact hk a b rest hs

theorem post_popThree {k : Word → Word → Word → State → Out} (h : AfterFaults P s)
    (hk : ∀ a b c rest, s.stack = a :: b :: c :: rest → post P Q (k a b c (s.withStack rest))) :
    post P Q (popThree s k) := by
  rcases popThree_cases s k with ⟨-, e⟩ | ⟨a, b, c, rest, hs, e⟩ <;> rw [e]
  · exact post_raise h
  · exact hk a b c rest hs

theorem post_peek {i : Nat} {k : Word → Out} (h : AfterFaults P s)
    (hk : ∀ v, s.stack[i]? = some v → post P Q (k v)) : post P Q (peek i s k) := by
  rcases peek_cases i s k with ⟨-, e⟩ | ⟨v, hs, e⟩ <;> rw [e]
  · exact post_raise h
  · exact hk v hs

theorem post_pushResult {v : Word} (hq : stackFits s.params (s.stack.length + 1) = false → Q .stackCapacityExceeded)
    (hk : stackFits s.params (s.stack.length + 1) = true → P ((s.withStack (v :: s.stack)).withPc (s.pc + 1))) :
    post P Q (pushResult v s) := by
  rcases pushResult_cases v s with ⟨hs, e⟩ | ⟨hs, e⟩ <;> rw [e]
  · exact hk hs
  · exact hq hs

theorem post_toIndex {w : Word} {k : Nat → Out} (h : AfterFaults P s)
    (hk : w.toNat < 2 ^ 32 → post P Q (k w.toNat)) : post P Q (toIndex w s k) := by
  rcases toIndex_cases w s k with ⟨hw, e⟩ | ⟨-, e⟩ <;> rw [e]
  · exact hk hw
  · exact post_raise h

theorem post_orRaise {α : Type} {r : Except ErrorKind α} {k : α → Out} (h : AfterFaults P s)
    (hk : ∀ v, r = .ok v → post P Q (k v)) : post P Q (orRaise r s k) := by
  cases r with
  | ok v => exact hk v rfl
  | error e => exact post_raise h

theorem post_cover_memRead {o n : Nat} {k : List Byte → State → Out}
    (hq : Overfull s o n → Q .memCapacityExceeded)
    (hk : ¬ Overfull s o n →
      post P Q (k (s.mem.read o n) (s.withMem (coveredMem s o n)))) :
    post P Q (cover o n s fun s => memRead o n s fun bs => k bs s) := by
  rcases cover_memRead_cases o n s k with ⟨hf, e⟩ | ⟨hf, e⟩ <;> rw [e]
  · exact hk hf
  · exact hq hf

theorem post_cover_memWrite {o n : Nat} {bs : List Byte} (hn : n = bs.length) {k : State → Out}
    (hq : Overfull s o n → Q .memCapacityExceeded)
    (hk : ¬ Overfull s o n →
      post P Q (k (s.withMem ((coveredMem s o n).write o bs)))) :
    post P Q (cover o n s fun s => memWrite o bs s k) := by
  rcases cover_memWrite_cases o bs n hn s k with ⟨hf, e⟩ | ⟨hf, e⟩ <;> rw [e]
  · exact hk hf
  · exact hq hf

theorem post_popRange {k : List Byte → State → Out} (h : AfterFaults P s)
    (hq : ∀ (offset size : Word) rest, s.stack = offset :: size :: rest → offset.toNat < 2 ^ 32 → size.toNat < 2 ^ 32 →
      Overfull s offset.toNat size.toNat → Q .memCapacityExceeded)
    (hk : ∀ (o n : Nat) (offset size : Word) rest, s.stack = offset :: size :: rest → o = offset.toNat → n = size.toNat →
      ¬ Overfull s o n → post P Q (k (s.mem.read o n) ((s.withStack rest).withMem (coveredMem s o n)))) :
    post P Q (popRange s k) := by
  rcases popRange_cases s k with ⟨-, e⟩ | ⟨offset, size, rest, hs, ⟨-, e⟩ | ⟨ho, hn, ⟨hf, e⟩ | ⟨hf, e⟩⟩⟩ <;> rw [e]
  · exact post_raise h
  · exact post_raise h
  · exact hk _ _ offset size rest hs rfl rfl hf
  · exact hq offset size rest hs ho hn hf

theorem post_popMany {n : Nat} {k : List Word → State → Out} (h : AfterFaults P s)
    (hk : n ≤ s.stack.length → post P Q (k (s.stack.take n) (s.withStack (s.stack.drop n)))) :
    post P Q (popMany n s k) := by
  rcases popMany_cases n s k with ⟨-, e⟩ | ⟨hn, e⟩ <;> rw [e]
  · exact post_raise h
  · exact hk hn

theorem post_swapTop {i : Nat} {k : State → Out} (h : AfterFaults P s)
    (hk : ∀ v t, s.stack[i]? = some v → s.stack[0]? = some t →
      post P Q (k (s.withStack ((s.stack.set 0 v).set i t)))) : post P Q (swapTop i s k) := by
  rcases swapTop_cases i s k with ⟨-, e⟩ | ⟨v, t, hv, ht, e⟩ <;> rw [e]
  · exact post_raise h
  · exact hk v t hv ht

theorem post_pushImmediate {n : Nat} {imm : List Byte} (h : AfterFaults P s)
    (hq : stackFits s.params (s.stack.length + 1) = false → Q .stackCapacityExceeded)
    (hk : s.pc + n < s.code.length → stackFits s.params (s.stack.length + 1) = true →
      P ((s.withStack (W (natOfBytes imm) :: s.stack)).withPc (s.pc + (1 + n)))) : post P Q (pushImmediate n imm s) := by
  rcases pushImmediate_cases n imm s with ⟨-, e⟩ | ⟨-, -, e⟩ | ⟨hp, -, ⟨hs, e⟩ | ⟨hs, e⟩⟩ <;> rw [e]
  · exact post_raise h
  · exact post_raise h
  · exact hk hp hs
  · exact hq hs

theorem post_loadKey {key : Word} {k : Word → State → Out} (h : AfterFaults P s)
    (hq : s.storage.find key = none → Config.fetchStorage s.freeIndex (fetchRequest s key) = .noAnswer →
      Q .dataSourceNeverAnswers)
    (hk : ∀ v, s.storage.find key = some v → post P Q (k v s))
    (hf : ∀ r, s.storage.find key = none →
      post P Q (k r ((afterRequest s key).withStorage (s.storage.insert key r)))) : post P Q (loadKey key s k) := by
  rcases loadKey_cases key s k with ⟨v, hv, e⟩ | ⟨hn, ⟨r, -, e⟩ | ⟨-, e⟩ | ⟨ha, e⟩⟩ <;> rw [e]
  · exact hk v hv
  · exact hf r hn
  · exact h _ _ rfl rfl rfl
  · exact hq hn ha

theorem post_fetchInstr {k : Instr → Out} (h : AfterFaults P s)
    (hk : ∀ op following, s.code.drop s.pc = op :: following → post P Q (k (decodeInstr op following).1)) :
    post P Q (fetchInstr s k) := by
  rcases fetchInstr_cases s k with ⟨-, e⟩ | ⟨op, following, hs, e⟩ <;> rw [e]
  · exact post_raise h
  · exact hk op following hs

end Sys2Proof.Machine
end

