-- ==== Sys2Proof/Tests/Slice0.lean ====
section
/-! SUPPORT. Tests of the model: each is one decoding, one unit operation or one step, its expected result taken from the spec
(30_encoding.md R95 and opcode_table.json for the bytes, 95_test_vectors.md for the results), and one witness for each
obligation that has hypotheses, at the boundary of its range where a clause has one. -/

namespace Sys2Proof.Tests

open Sys2Proof.Machine Sys2Proof.Claims

/-! ## Decoding: the byte of every opcode-table row, written out -/

theorem test_decode_row_0 : ∀ p ∈
    [(0x00#8, .stop), (0x01#8, .add), (0x02#8, .mul), (0x03#8, .sub), (0x04#8, .div), (0x05#8, .sdiv),
     (0x06#8, .mod), (0x07#8, .smod), (0x08#8, .addmod), (0x09#8, .mulmod), (0x0a#8, .exp), (0x0b#8, .signextend),
     (0x0c#8, .unassigned0C), (0x0d#8, .unassigned0D), (0x0e#8, .unassigned0E), (0x0f#8, .unassigned0F)],
    decodeInstr (p : Byte × Instr).1 [0xee#8] = (p.2, [0xee#8]) := by decide

theorem test_decode_row_1 : ∀ p ∈
    [(0x10#8, .lt), (0x11#8, .gt), (0x12#8, .slt), (0x13#8, .sgt), (0x14#8, .eq), (0x15#8, .iszero),
     (0x16#8, .and), (0x17#8, .or), (0x18#8, .xor), (0x19#8, .not), (0x1a#8, .byte), (0x1b#8, .shl),
     (0x1c#8, .shr), (0x1d#8, .sar), (0x1e#8, .unassigned1E), (0x1f#8, .unassigned1F)],
    decodeInstr (p : Byte × Instr).1 [0xee#8] = (p.2, [0xee#8]) := by decide

theorem test_decode_row_2 : ∀ p ∈
    [(0x20#8, .sha3), (0x21#8, .unassigned21), (0x22#8, .unassigned22), (0x23#8, .unassigned23),
     (0x24#8, .unassigned24), (0x25#8, .unassigned25), (0x26#8, .unassigned26), (0x27#8, .unassigned27),
     (0x28#8, .unassigned28), (0x29#8, .unassigned29), (0x2a#8, .unassigned2A), (0x2b#8, .unassigned2B),
     (0x2c#8, .unassigned2C), (0x2d#8, .unassigned2D), (0x2e#8, .unassigned2E), (0x2f#8, .unassigned2F)],
    decodeInstr (p : Byte × Instr).1 [0xee#8] = (p.2, [0xee#8]) := by decide

theorem test_decode_row_3 : ∀ p ∈
    [(0x30#8, .address), (0x31#8, .balance), (0x32#8, .origin), (0x33#8, .caller), (0x34#8, .callvalue),
     (0x35#8, .calldataload), (0x36#8, .calldatasize), (0x37#8, .calldatacopy), (0x38#8, .codesize),
     (0x39#8, .codecopy), (0x3a#8, .gasprice), (0x3b#8, .extcodesize), (0x3c#8, .extcodecopy),
     (0x3d#8, .returndatasize), (0x3e#8, .returndatacopy), (0x3f#8, .extcodehash)],
    decodeInstr (p : Byte × Instr).1 [0xee#8] = (p.2, [0xee#8]) := by decide

theorem test_decode_row_4 : ∀ p ∈
    [(0x40#8, .blockhash), (0x41#8, .coinbase), (0x42#8, .timestamp), (0x43#8, .number), (0x44#8, .difficulty),
     (0x45#8, .gaslimit), (0x46#8, .unassigned46), (0x47#8, .unassigned47), (0x48#8, .unassigned48),
     (0x49#8, .unassigned49), (0x4a#8, .unassigned4A), (0x4b#8, .unassigned4B), (0x4c#8, .unassigned4C),
     (0x4d#8, .unassigned4D), (0x4e#8, .unassigned4E), (0x4f#8, .unassigned4F)],
    decodeInstr (p : Byte × Instr).1 [0xee#8] = (p.2, [0xee#8]) := by decide

theorem test_decode_row_5 : ∀ p ∈
    [(0x50#8, .pop), (0x51#8, .mload), (0x52#8, .mstore), (0x53#8, .mstore8), (0x54#8, .sload), (0x55#8, .sstore),
     (0x56#8, .jump), (0x57#8, .jumpi), (0x58#8, .pc), (0x59#8, .msize), (0x5a#8, .gas), (0x5b#8, .jumpdest),
     (0x5c#8, .unassigned5C), (0x5d#8, .unassigned5D), (0x5e#8, .unassigned5E), (0x5f#8, .unassigned5F)],
    decodeInstr (p : Byte × Instr).1 [0xee#8] = (p.2, [0xee#8]) := by decide

/-- The bytes 1, 2, .., n. -/
def bytesUpTo (n : Nat) : List Byte := (List.range n).map fun k => BitVec.ofNat 8 (k + 1)

/-- A PUSHn takes the `n` bytes after the opcode, and no more. -/
theorem test_decode_row_6 : ∀ p ∈
    [(0x60#8, .push1 (bytesUpTo 1), 1), (0x61#8, .push2 (bytesUpTo 2), 2), (0x62#8, .push3 (bytesUpTo 3), 3),
     (0x63#8, .push4 (bytesUpTo 4), 4), (0x64#8, .push5 (bytesUpTo 5), 5), (0x65#8, .push6 (bytesUpTo 6), 6),
     (0x66#8, .push7 (bytesUpTo 7), 7), (0x67#8, .push8 (bytesUpTo 8), 8), (0x68#8, .push9 (bytesUpTo 9), 9),
     (0x69#8, .push10 (bytesUpTo 10), 10), (0x6a#8, .push11 (bytesUpTo 11), 11),
     (0x6b#8, .push12 (bytesUpTo 12), 12), (0x6c#8, .push13 (bytesUpTo 13), 13),
     (0x6d#8, .push14 (bytesUpTo 14), 14), (0x6e#8, .push15 (bytesUpTo 15), 15),
     (0x6f#8, .push16 (bytesUpTo 16), 16)],
    decodeInstr (p : Byte × Instr × Nat).1 (bytesUpTo p.2.2 ++ [0xee#8]) = (p.2.1, [0xee#8]) := by decide

/-- A PUSHn takes the `n` bytes after the opcode, and no more. -/
theorem test_decode_row_7 : ∀ p ∈
    [(0x70#8, .push17 (bytesUpTo 17), 17), (0x71#8, .push18 (bytesUpTo 18), 18),
     (0x72#8, .push19 (bytesUpTo 19), 19), (0x73#8, .push20 (bytesUpTo 20), 20),
     (0x74#8, .push21 (bytesUpTo 21), 21), (0x75#8, .push22 (bytesUpTo 22), 22),
     (0x76#8, .push23 (bytesUpTo 23), 23), (0x77#8, .push24 (bytesUpTo 24), 24),
     (0x78#8, .push25 (bytesUpTo 25), 25), (0x79#8, .push26 (bytesUpTo 26), 26),
     (0x7a#8, .push27 (bytesUpTo 27), 27), (0x7b#8, .push28 (bytesUpTo 28), 28),
     (0x7c#8, .push29 (bytesUpTo 29), 29), (0x7d#8, .push30 (bytesUpTo 30), 30),
     (0x7e#8, .push31 (bytesUpTo 31), 31), (0x7f#8, .push32 (bytesUpTo 32), 32)],
    decodeInstr (p : Byte × Instr × Nat).1 (bytesUpTo p.2.2 ++ [0xee#8]) = (p.2.1, [0xee#8]) := by decide

theorem test_decode_row_8 : ∀ p ∈
    [(0x80#8, .dup1), (0x81#8, .dup2), (0x82#8, .dup3), (0x83#8, .dup4), (0x84#8, .dup5), (0x85#8, .dup6),
     (0x86#8, .dup7), (0x87#8, .dup8), (0x88#8, .dup9), (0x89#8, .dup10), (0x8a#8, .dup11), (0x8b#8, .dup12),
     (0x8c#8, .dup13), (0x8d#8, .dup14), (0x8e#8, .dup15), (0x8f#8, .dup16)],
    decodeInstr (p : Byte × Instr).1 [0xee#8] = (p.2, [0xee#8]) := by decide

theorem test_decode_row_9 : ∀ p ∈
    [(0x90#8, .swap1), (0x91#8, .swap2), (0x92#8, .swap3), (0x93#8, .swap4), (0x94#8, .swap5), (0x95#8, .swap6),
     (0x96#8, .swap7), (0x97#8, .swap8), (0x98#8, .swap9), (0x99#8, .swap10), (0x9a#8, .swap11), (0x9b#8, .swap12),
     (0x9c#8, .swap13), (0x9d#8, .swap14), (0x9e#8, .swap15), (0x9f#8, .swap16)],
    decodeInstr (p : Byte × Instr).1 [0xee#8] = (p.2, [0xee#8]) := by decide

theorem test_decode_row_a : ∀ p ∈
    [(0xa0#8, .log0), (0xa1#8, .log1), (0xa2#8, .log2), (0xa3#8, .log3), (0xa4#8, .log4), (0xa5#8, .unassignedA5),
     (0xa6#8, .unassignedA6), (0xa7#8, .unassignedA7), (0xa8#8, .unassignedA8), (0xa9#8, .unassignedA9),
     (0xaa#8, .unassignedAA), (0xab#8, .unassignedAB), (0xac#8, .unassignedAC), (0xad#8, .unassignedAD),
     (0xae#8, .unassignedAE), (0xaf#8, .unassignedAF)],
    decodeInstr (p : Byte × Instr).1 [0xee#8] = (p.2, [0xee#8]) := by decide

theorem test_decode_row_b : ∀ p ∈
    [(0xb0#8, .unassignedB0), (0xb1#8, .unassignedB1), (0xb2#8, .unassignedB2), (0xb3#8, .unassignedB3),
     (0xb4#8, .unassignedB4), (0xb5#8, .unassignedB5), (0xb6#8, .unassignedB6), (0xb7#8, .unassignedB7),
     (0xb8#8, .unassignedB8), (0xb9#8, .unassignedB9), (0xba#8, .unassignedBA), (0xbb#8, .unassignedBB),
     (0xbc#8, .unassignedBC), (0xbd#8, .unassignedBD), (0xbe#8, .unassignedBE), (0xbf#8, .unassignedBF)],
    decodeInstr (p : Byte × Instr).1 [0xee#8] = (p.2, [0xee#8]) := by decide

theorem test_decode_row_c : ∀ p ∈
    [(0xc0#8, .unassignedC0), (0xc1#8, .unassignedC1), (0xc2#8, .unassignedC2), (0xc3#8, .unassignedC3),
     (0xc4#8, .unassignedC4), (0xc5#8, .unassignedC5), (0xc6#8, .unassignedC6), (0xc7#8, .unassignedC7),
     (0xc8#8, .unassignedC8), (0xc9#8, .unassignedC9), (0xca#8, .unassignedCA), (0xcb#8, .unassignedCB),
     (0xcc#8, .unassignedCC), (0xcd#8, .unassignedCD), (0xce#8, .unassignedCE), (0xcf#8, .unassignedCF)],
    decodeInstr (p : Byte × Instr).1 [0xee#8] = (p.2, [0xee#8]) := by decide

theorem test_decode_row_d : ∀ p ∈
    [(0xd0#8, .unassignedD0), (0xd1#8, .unassignedD1), (0xd2#8, .unassignedD2), (0xd3#8, .unassignedD3),
     (0xd4#8, .unassignedD4), (0xd5#8, .unassignedD5), (0xd6#8, .unassignedD6), (0xd7#8, .unassignedD7),
     (0xd8#8, .unassignedD8), (0xd9#8, .unassignedD9), (0xda#8, .unassignedDA), (0xdb#8, .unassignedDB),
     (0xdc#8, .unassignedDC), (0xdd#8, .unassignedDD), (0xde#8, .unassignedDE), (0xdf#8, .unassignedDF)],
    decodeInstr (p : Byte × Instr).1 [0xee#8] = (p.2, [0xee#8]) := by decide

theorem test_decode_row_e : ∀ p ∈
    [(0xe0#8, .unassignedE0), (0xe1#8, .unassignedE1), (0xe2#8, .unassignedE2), (0xe3#8, .unassignedE3),
     (0xe4#8, .unassignedE4), (0xe5#8, .unassignedE5), (0xe6#8, .unassignedE6), (0xe7#8, .unassignedE7),
     (0xe8#8, .unassignedE8), (0xe9#8, .unassignedE9), (0xea#8, .unassignedEA), (0xeb#8, .unassignedEB),
     (0xec#8, .unassignedEC), (0xed#8, .unassignedED), (0xee#8, .unassignedEE), (0xef#8, .unassignedEF)],
    decodeInstr (p : Byte × Instr).1 [0xee#8] = (p.2, [0xee#8]) := by decide

theorem test_decode_row_f : ∀ p ∈
    [(0xf0#8, .create), (0xf1#8, .call), (0xf2#8, .callcode), (0xf3#8, .ret), (0xf4#8, .delegatecall),
     (0xf5#8, .create2), (0xf6#8, .unassignedF6), (0xf7#8, .unassignedF7), (0xf8#8, .unassignedF8),
     (0xf9#8, .unassignedF9), (0xfa#8, .staticcall), (0xfb#8, .unassignedFB), (0xfc#8, .unassignedFC),
     (0xfd#8, .revert), (0xfe#8, .invalid), (0xff#8, .suicide)],
    decodeInstr (p : Byte × Instr).1 [0xee#8] = (p.2, [0xee#8]) := by decide

theorem test_decode_empty_is_rejected : (match decode [] with | .error .noOpcode => true | .ok _ => false) = true := by decide

theorem test_table_word_of_add : decodeTableWord 8 0x01 = some .add := by decide

/-- The first immediate byte is bits 15 to 8 of the table's numbering. -/
theorem test_table_word_of_push2 : decodeTableWord 24 0x020161 = some (.push2 [0x01#8, 0x02#8]) := by decide

theorem test_table_word_without_operand_bits : decodeTableWord 8 0x61 = some (.push2 [0x00#8, 0x00#8]) := by decide

/-! ## Well-formedness: the one check refuses too few and too many immediate bytes -/

theorem test_ill_formed_short_immediate : ¬ (Instr.push2 [0x01#8]).WellFormed := by decide

theorem test_ill_formed_long_immediate : ¬ (Instr.push1 [0x01#8, 0x02#8]).WellFormed := by decide

theorem test_well_formed_immediate : (Instr.push32 (bytesUpTo 32)).WellFormed := by decide

/-- A truncated immediate decodes to an ill-formed term (48_stack.md R301). -/
theorem test_truncated_push_decodes_ill_formed :
    (decodeInstr 0x61#8 [0x01#8]).1 = .push2 [0x01#8] ∧ ¬ (decodeInstr 0x61#8 [0x01#8]).1.WellFormed := by decide

/-! ## Small states, and what a test reads of an outcome -/

/-- The greatest Word, `F` of 95_test_vectors.md. -/
def wordMax : Word := W (2 ^ 256 - 1)

/-- A machine about to run at `pc` 3 of a five-byte code whose byte 4 is a JUMPDEST, with a stack. -/
def holding (stack : List Word) : State :=
  { State.reset with pc := 3, code := [0x60#8, 0x05#8, 0x00#8, 0x00#8, 0x5b#8], stack := stack }

/-- A machine at `pc` 0 of a code. -/
def running (code : List Byte) : State := { State.reset with code := code }

/-- The context of 95_test_vectors.md 2.5. -/
def withContext (s : State) : State :=
  { s with ctx := { s.ctx with sender := W 0x123, recipient := W 0xabc, value := W 1000, height := W 100
                               input := [0x01#8, 0x02#8, 0x03#8] } }

/-- With 32 bytes of memory, byte 31 being 0x2a: what MSTORE of 42 at 0 leaves. -/
def with42 (s : State) : State := { s with mem := { size := 32, cells := [(31, 0x2a#8)] } }

/-- With finite capacities. -/
def capped (stack mem : Nat) (s : State) : State :=
  { s with params := { s.params with stackCapacity := some stack, memCapacity := some mem } }

/-- With the exact ADDMOD and MULMOD. -/
def wide (s : State) : State := { s with params := { s.params with modarithWide := true } }

/-- With size-0 accesses that do not expand memory. -/
def zeroKeeps (s : State) : State := { s with params := { s.params with zeroSizeExpands := false } }

/-- With one stored pair. -/
def storing (key value : Word) (s : State) : State := { s with storage := { entries := [(key, value)] } }

/-- A component of the next state of a machine that has not faulted. -/
def after {α : Type} (f : State → α) : Out → Option α
  | .next t => if t.endedInError then none else some (f t)
  | .fault _ => none
  | .refused _ => none

/-- Stack and `pc`. -/
def stackPc (s : State) : List Word × Nat := (s.stack, s.pc)

/-- The kind of the fault an outcome takes. -/
def faultOf : Out → Option ErrorKind
  | .next t => match t.run with
    | .faulted k => some k
    | .halted _ | .running => none
  | .fault _ => none
  | .refused _ => none

/-- Why an outcome is stuck. -/
def stuckOf : Out → Option Fault
  | .fault f => some f
  | .next _ => none
  | .refused _ => none

/-! ## The arithmetic unit (95_test_vectors.md 2.1) -/

theorem test_au_word : auPort (.word [0x01#8, 0x00#8]) = .word (W 256) ∧ auPort (.word []) = .word (W 0) ∧
    auPort (.word (bytesUpTo 33)) = .error .constructionOverflow := by decide

theorem test_au_bytes32 : auBytes32 (W 0x0102) = List.replicate 30 0#8 ++ [0x01#8, 0x02#8] := by decide

theorem test_au_add_sub : auPort (.add wordMax wordMax) = .word (W (2 ^ 256 - 2)) ∧
    auPort (.sub (W 3) (W 5)) = .word (W (2 ^ 256 - 2)) := by decide

theorem test_au_mul_div_mod : auPort (.mul wordMax wordMax) = .word (W 1) ∧ auPort (.div (W 7) (W 2)) = .word (W 3) ∧
    auPort (.div (W 7) (W 0)) = .error .divisionByZero ∧ auPort (.mod (W 7) (W 0)) = .error .divisionByZero ∧
    auPort (.mod wordMax (W (2 ^ 255))) = .word (W (2 ^ 255 - 1)) := by decide

theorem test_au_exp : auPort (.exp (W 3) (W 4)) = .word (W 81) ∧ auPort (.exp (W 2) (W 255)) = .word (W (2 ^ 255)) ∧
    auPort (.exp wordMax wordMax) = .word wordMax := by decide +kernel

theorem test_au_shifts : auPort (.shl (W 0x01ff) 4#32) = .word (W 0x1ff0) ∧ auPort (.shl (W 1) 256#32) = .word (W 0) ∧
    auPort (.shr (W 0x1ff0) 4#32) = .word (W 0x01ff) ∧ auPort (.shr wordMax 1#32) = .word (W (2 ^ 255 - 1)) := by decide

theorem test_au_bitwise : auPort (.and (W 0x0ff0) (W 0x00ff)) = .word (W 0xf0) ∧
    auPort (.or (W 0x0ff0) (W 0x00ff)) = .word (W 0xfff) ∧ auPort (.xor (W 0x0ff0) (W 0x00ff)) = .word (W 0xf0f) ∧
    auPort (.not (W 1)) = .word (W (2 ^ 256 - 2)) := by decide

theorem test_au_comparisons : auPort (.lt wordMax (W 0)) = .bool false ∧ auPort (.gt wordMax (W 0)) = .bool true ∧
    auPort (.eq (W 5) (W 5)) = .bool true ∧ auPort (.ne (W 0) (W (2 ^ 255))) = .bool true ∧
    auPort (.le wordMax (W 0)) = .bool false ∧ auPort (.ge (W 5) (W 5)) = .bool true := by decide

theorem test_au_conversions : auPort (.toU32 (W (2 ^ 32 - 1))) = .u32 4294967295 ∧
    auPort (.toU32 (W (2 ^ 32))) = .error .conversionOverflow ∧ auPort (.toU32trunc (W (2 ^ 32 + 5))) = .u32 5 := by decide

theorem test_au_hex : auPort (.hexMinNibble (W 256)) = .text ['1', '0', '0'] ∧
    auPort (.hexMinByte (W 256)) = .text ['0', '1', '0', '0'] ∧ auPort (.hexMinNibble (W 0)) = .text ['0'] ∧
    auPort (.hexMinByte (W 0)) = .text ['0', '0'] ∧
    auPort (.hexFull (W 0xbeef)) = .text (List.replicate 60 '0' ++ ['b', 'e', 'e', 'f']) := by decide

/-! ## Arithmetic and comparison instructions (95_test_vectors.md 2.2, 2.3) -/

theorem test_add_wraps : after stackPc (exec .add (holding [wordMax, W 1])) = some ([W 0], 4) := by decide
theorem test_add_underflow : faultOf (exec .add (holding [W 1])) = some .stackUnderflow := by decide
theorem test_sub_order : after stackPc (exec .sub (holding [W 5, W 3])) = some ([W 2], 4) := by decide
theorem test_sub_borrow : after stackPc (exec .sub (holding [W 3, W 5])) = some ([W (2 ^ 256 - 2)], 4) := by decide
theorem test_mul : after stackPc (exec .mul (holding [W 6, W 7])) = some ([W 42], 4) := by decide
theorem test_mul_wraps : after stackPc (exec .mul (holding [wordMax, wordMax])) = some ([W 1], 4) := by decide
theorem test_div : after stackPc (exec .div (holding [W 7, W 2])) = some ([W 3], 4) := by decide
theorem test_div_by_zero : after stackPc (exec .div (holding [W 7, W 0])) = some ([W 0], 4) := by decide
theorem test_mod : after stackPc (exec .mod (holding [W 7, W 2])) = some ([W 1], 4) := by decide
theorem test_mod_by_zero : after stackPc (exec .mod (holding [W 7, W 0])) = some ([W 0], 4) := by decide
theorem test_exp_order : after stackPc (exec .exp (holding [W 3, W 4])) = some ([W 81], 4) := by decide +kernel
theorem test_exp_zero_to_zero : after stackPc (exec .exp (holding [W 0, W 0])) = some ([W 1], 4) := by decide +kernel
theorem test_not : after stackPc (exec .not (holding [W 1])) = some ([W (2 ^ 256 - 2)], 4) := by decide
theorem test_and : after stackPc (exec .and (holding [W 0x0ff0, W 0x00ff])) = some ([W 0xf0], 4) := by decide
theorem test_or : after stackPc (exec .or (holding [W 0x0ff0, W 0x00ff])) = some ([W 0xfff], 4) := by decide
theorem test_xor : after stackPc (exec .xor (holding [W 0x0ff0, W 0x00ff])) = some ([W 0xf0f], 4) := by decide
theorem test_addmod : after stackPc (exec .addmod (holding [wordMax, W 2, W 7])) = some ([W 1], 4) := by decide
theorem test_addmod_wide : after stackPc (exec .addmod (wide (holding [wordMax, W 2, W 7]))) = some ([W 3], 4) := by decide
theorem test_mulmod : after stackPc (exec .mulmod (holding [W (2 ^ 255), W 2, W 7])) = some ([W 0], 4) := by decide
theorem test_mulmod_wide : after stackPc (exec .mulmod (wide (holding [W (2 ^ 255), W 2, W 7]))) = some ([W 2], 4) := by decide
theorem test_lt : after stackPc (exec .lt (holding [W 4, W 5])) = some ([W 1], 4) := by decide
theorem test_lt_unsigned : after stackPc (exec .lt (holding [wordMax, W 0])) = some ([W 0], 4) := by decide
theorem test_gt : after stackPc (exec .gt (holding [W 5, W 4])) = some ([W 1], 4) := by decide
theorem test_gt_unsigned : after stackPc (exec .gt (holding [wordMax, W 0])) = some ([W 1], 4) := by decide
theorem test_eq : after stackPc (exec .eq (holding [W 4, W 4])) = some ([W 1], 4) := by decide
theorem test_eq_differs : after stackPc (exec .eq (holding [W 4, W 5])) = some ([W 0], 4) := by decide
theorem test_iszero : after stackPc (exec .iszero (holding [W 0])) = some ([W 1], 4) := by decide
theorem test_iszero_top_bit : after stackPc (exec .iszero (holding [W (2 ^ 255)])) = some ([W 0], 4) := by decide

/-! ## Memory, hashing, logging, code copy (95_test_vectors.md 2.4) -/

theorem test_mload_straddles : after (fun t => (t.stack, t.mem)) (exec .mload (with42 (holding [W 1]))) =
    some ([W 0x2a00], { size := 64, cells := [(31, 0x2a#8)] }) := by decide
theorem test_mload_overflow : faultOf (exec .mload (holding [W (2 ^ 32)])) = some .conversionOverflow := by decide
theorem test_mstore : after (fun t => (t.stack, t.mem)) (exec .mstore (holding [W 0x10, W 0xbeef])) =
    some ([], { size := 64, cells := [(0x2e, 0xbe#8), (0x2f, 0xef#8)] }) := by decide
theorem test_mstore_pops_before_converting :
    faultOf (exec .mstore (holding [W (2 ^ 32)])) = some .stackUnderflow := by decide
theorem test_mstore8 : after (fun t => (t.stack, t.mem)) (exec .mstore8 (holding [W 3, W 0xbeef])) =
    some ([], { size := 32, cells := [(3, 0xef#8)] }) := by decide
/-- Storing 0 over a listed byte leaves no cell: the canonical form. -/
theorem test_mstore8_zero_removes : after (fun t => t.mem) (exec .mstore8 (with42 (holding [W 31, W 0]))) =
    some { size := 32, cells := [] } := by decide
theorem test_sha3_expands : after (fun t => (t.stack.length, t.mem.size)) (exec .sha3 (holding [W 33, W 0])) =
    some (1, 64) := by decide
theorem test_sha3_zero_size_keeps : after (fun t => t.mem.size) (exec .sha3 (zeroKeeps (holding [W 33, W 0]))) =
    some 0 := by decide
theorem test_log0 : after (fun t => (t.stack, t.logs)) (exec .log0 (with42 (holding [W 30, W 2]))) =
    some ([], [{ topics := [], data := [0x00#8, 0x2a#8] }]) := by decide
theorem test_log1 : after (fun t => (t.stack, t.logs)) (exec .log1 (holding [W 0, W 0, W 0xaa, W 0xbb])) =
    some ([W 0xbb], [{ topics := [W 0xaa], data := [] }]) := by decide
theorem test_log1_converts_before_topics :
    faultOf (exec .log1 (holding [W (2 ^ 32), W 0])) = some .conversionOverflow := by decide
theorem test_log2 : after (fun t => t.logs) (exec .log2 (holding [W 0, W 0, W 0xaa, W 0xbb])) =
    some [{ topics := [W 0xaa, W 0xbb], data := [] }] := by decide
theorem test_log3 : after (fun t => t.logs) (exec .log3 (holding [W 0, W 0, W 0xaa, W 0xbb, W 0xcc])) =
    some [{ topics := [W 0xaa, W 0xbb, W 0xcc], data := [] }] := by decide
theorem test_log4 : after (fun t => t.logs) (exec .log4 (holding [W 0, W 0, W 0xaa, W 0xbb, W 0xcc, W 0xdd])) =
    some [{ topics := [W 0xaa, W 0xbb, W 0xcc, W 0xdd], data := [] }] := by decide
theorem test_log4_underflow : faultOf (exec .log4 (holding [W 0, W 0, W 1, W 2, W 3])) = some .stackUnderflow := by decide
/-- The code of `holding` ends at 5: zero fill past it. -/
theorem test_codecopy : after (fun t => (t.stack, t.mem)) (exec .codecopy (with42 (holding [W 30, W 4, W 2]))) =
    some ([], { size := 32, cells := [(30, 0x5b#8)] }) := by decide
theorem test_codecopy_overflow :
    faultOf (exec .codecopy (holding [W 0, W (2 ^ 32), W 1])) = some .conversionOverflow := by decide

/-! ## Context and storage (95_test_vectors.md 2.5, 2.6) -/

theorem test_address : after stackPc (exec .address (withContext (holding []))) = some ([W 0xabc], 4) := by decide
theorem test_origin : after stackPc (exec .origin (withContext (holding []))) = some ([W 0x123], 4) := by decide
theorem test_caller : after stackPc (exec .caller (withContext (holding []))) = some ([W 0x123], 4) := by decide
theorem test_callvalue : after stackPc (exec .callvalue (withContext (holding []))) = some ([W 1000], 4) := by decide
theorem test_calldatasize : after stackPc (exec .calldatasize (withContext (holding []))) = some ([W 3], 4) := by decide
theorem test_calldataload : after stackPc (exec .calldataload (withContext (holding [W 1]))) =
    some ([W (0x0203 * 2 ^ 240)], 4) := by decide
theorem test_calldataload_past_end : after stackPc (exec .calldataload (withContext (holding [W (2 ^ 32 - 1)]))) =
    some ([W 0], 4) := by decide
theorem test_pc : after stackPc (exec .pc (holding [W 0])) = some ([W 3, W 0], 4) := by decide
theorem test_msize : after stackPc (exec .msize (with42 (holding []))) = some ([W 32], 4) := by decide
theorem test_sload_present_zero : after stackPc (exec .sload (storing (W 5) (W 0) (holding [W 5]))) =
    some ([W 0], 4) := by decide
theorem test_sload_request_wraps : (fetchRequest (holding []) (W 1)).height = wordMax := by decide
theorem test_sstore : after (fun t => (t.stack, t.storage.entries, t.fetches)) (exec .sstore (holding [W 1, W 42])) =
    some ([], [(W 1, W 42)], []) := by decide
theorem test_sstore_overwrites : after (fun t => t.storage.entries) (exec .sstore (storing (W 7) (W 1) (holding [W 7, W 2]))) =
    some [(W 7, W 2)] := by decide

/-! ## Control flow and halts (95_test_vectors.md 2.7) -/

theorem test_jump : after stackPc (exec .jump (holding [W 4])) = some ([], 4) := by decide
theorem test_jump_to_code_length : faultOf (exec .jump (holding [W 5])) = some .invalidJumpDestination := by decide
theorem test_jumpi_taken : after stackPc (exec .jumpi (holding [W 4, W (2 ^ 255)])) = some ([], 4) := by decide
theorem test_jumpi_zero_ignores_destination : after stackPc (exec .jumpi (holding [wordMax, W 0])) = some ([], 4) := by decide
theorem test_jumpdest : after stackPc (exec .jumpdest (holding [W 1])) = some ([W 1], 4) := by decide
theorem test_stop : after (fun t => (t.run, t.pc)) (exec .stop (holding [W 9])) = some (.halted .stop, 3) := by decide
theorem test_return : after (fun t => (t.run, t.pc, t.mem.size, t.returndata)) (exec .ret (with42 (holding [W 30, W 2]))) =
    some (.halted (.ret [0x00#8, 0x2a#8]), 3, 32, [0x00#8, 0x2a#8]) := by decide
theorem test_return_overflow : faultOf (exec .ret (holding [W 0, W (2 ^ 32)])) = some .conversionOverflow := by decide
theorem test_revert : after (fun t => (t.run, t.reverted, t.storage.entries))
    (exec .revert (storing (W 1) (W 42) (holding [W 0, W 0]))) = some (.halted (.revert []), true, [(W 1, W 42)]) := by decide
theorem test_suicide : after (fun t => (t.run, t.selfdestructed, t.stack, t.pc)) (exec .suicide (holding [W 0, W 7])) =
    some (.halted .suicide, true, [W 7], 3) := by decide
theorem test_suicide_underflow : faultOf (exec .suicide (holding [])) = some .stackUnderflow := by decide

/-! ## Stack instructions (95_test_vectors.md 2.8): every PUSH, DUP and SWAP on both sides of its boundary -/

theorem test_pop : after stackPc (exec .pop (holding [W 2, W 1])) = some ([W 1], 4) := by decide
theorem test_push_whole : ∀ p ∈ pushes, after stackPc (exec (p.2 (bytesUpTo p.1)) (running (0x60#8 :: bytesUpTo p.1))) =
    some ([W (natOfBytes (bytesUpTo p.1))], p.1 + 1) := by decide
theorem test_push_truncated : ∀ p ∈ pushes, faultOf (exec (p.2 (bytesUpTo p.1)) (running (bytesUpTo p.1))) =
    some .noMoreInstructions := by decide
theorem test_push2_big_endian : after stackPc (step (running [0x61#8, 0x01#8, 0x02#8])) = some ([W 0x0102], 3) := by decide
/-- The stack 0, 1, .., n−1. -/
def wordsUpTo (n : Nat) : List Word := (List.range n).map fun k => W k
theorem test_dup_whole : ∀ p ∈ dups, after stackPc (exec p.2 (holding (wordsUpTo p.1))) =
    some (W (p.1 - 1) :: wordsUpTo p.1, 4) := by decide
theorem test_dup_underflow : ∀ p ∈ dups, faultOf (exec p.2 (holding (wordsUpTo (p.1 - 1)))) = some .stackUnderflow := by decide
theorem test_swap_whole : ∀ p ∈ swaps, after stackPc (exec p.2 (holding (wordsUpTo (p.1 + 1)))) =
    some (((wordsUpTo (p.1 + 1)).set 0 (W p.1)).set p.1 (W 0), 4) := by decide
theorem test_swap_underflow : ∀ p ∈ swaps, faultOf (exec p.2 (holding (wordsUpTo p.1))) = some .stackUnderflow := by decide

/-! ## Steps, faults, stuck states, construction (95_test_vectors.md 2.9, 2.10; 70_reset_and_hazards.md R481) -/

theorem test_step_past_code : faultOf (step (running [])) = some .noMoreInstructions := by decide
theorem test_unsupported_before_underflow : faultOf (step (running [0x05#8])) = some .unsupportedInstruction := by decide
theorem test_unsupported_unassigned : faultOf (step (running [0x0c#8])) = some .unsupportedInstruction := by decide
theorem test_terminal_step : ({ running [0x01#8] with run := .halted .stop } : State).ended := by decide
theorem test_fetch_word_runs_first :
    after stackPc (step (State.reset.withFetchWord 16 0x0560)) = some ([W 5], 2) := by decide
theorem test_fetch_word_opcode_first :
    after (fun t => t.pc) (step (State.reset.withFetchWord 8 0x5b)) = some 1 := by decide
theorem test_stack_capacity : stuckOf (exec .pc (capped 1 0 (holding [W 1]))) = some .stackCapacityExceeded := by decide
theorem test_memory_capacity : stuckOf (exec .mload (capped 1 32 (holding [W 1]))) = some .memCapacityExceeded := by decide
theorem test_error_codes : [ErrorKind.constructionOverflow, .divisionByZero, .noMoreInstructions, .unsupportedInstruction,
    .invalidJumpDestination, .stackUnderflow, .dataSourceFailure, .conversionOverflow].map errorCode =
    [1, 2, 3, 4, 5, 6, 7, 8] := by decide

/-- Construction arguments with a one-byte sender and a two-byte value. -/
def sampleArgs : ConstructArgs :=
  { code := [0x5b#8], preseed := some [(W 5, W 8), (W 1, W 0), (W 5, W 9)], sender := [0x07#8], recipient := [], value := [0x01#8, 0x02#8]
    input := [0xaa#8], gasprice := [], gas := [], height := bytesUpTo 32, timestamp := [], params := Params.default }

theorem test_construct_context : (construct sampleArgs).map (fun s => (s.ctx.sender, s.ctx.value)) = some (W 7, W 0x0102) := by
  decide
theorem test_construct_storage : (construct sampleArgs).map (fun s => s.storage.entries) = some [(W 1, W 0), (W 5, W 9)] := by
  decide
theorem test_construct_refuses_long_scalar : construct { sampleArgs with gas := bytesUpTo 33 } = none := by decide
theorem test_inspect : (inspect (with42 (holding [W 1]))).mem = List.replicate 31 0#8 ++ [0x2a#8] := by decide

/-! ## Witnesses: concrete states and operands that meet all the hypotheses of an obligation, clause by clause. An obligation not
named here has no hypothesis that a state or an operand could fail to meet. -/

/-- Code that ends at the instruction at `pc`. -/
def atEnd (op : Byte) : State := { State.reset with pc := 1, code := [0x00#8, op] }

theorem reset_inv : State.reset.Inv where
  memCanonical := by decide
  storageCanonical := by decide
  codeLength := by decide
  inputLength := by decide
  pcInCode := by decide
  memGranular := by decide
  topicsBounded := by decide
  haltState := ⟨rfl, rfl, rfl⟩
  stackWithinCapacity := by decide
  memWithinCapacity := by decide

theorem witness_DecodeUndoesEncode : (Instr.push1 [0xff#8]).WellFormed ∧ (Instr.push32 (bytesUpTo 32)).WellFormed ∧
    Instr.suicide.WellFormed := by decide

theorem witness_EncodeUndoesDecode : decode [0x61#8, 0x01#8, 0x02#8, 0x03#8] = .ok (.push2 [0x01#8, 0x02#8], [0x03#8]) ∧
    decode [0x61#8] = .ok (.push2 [], []) := ⟨rfl, rfl⟩

theorem witness_StepRunsTheDecodedInstruction : (atEnd 0x01#8).run = .running ∧
    decode ((atEnd 0x01#8).code.drop (atEnd 0x01#8).pc) = .ok (.add, []) := ⟨rfl, rfl⟩

theorem witness_FetchReadsTheByteAtPcOrFaults : State.reset.run = .running ∧ State.reset.code.length ≤ State.reset.pc ∧
    (atEnd 0x5b#8).run = .running ∧ (atEnd 0x5b#8).code[(atEnd 0x5b#8).pc]? = some 0x5b#8 := by decide

theorem witness_TerminalStatesTakeNoStep : ({ State.reset with run := .halted .stop } : State).ended ∧
    ({ State.reset with run := .faulted .stackUnderflow } : State).ended := by decide

theorem witness_NonExecutingByteRaisesUnsupported : (atEnd 0xfe#8).run = .running ∧
    (atEnd 0xfe#8).code.drop (atEnd 0xfe#8).pc = [0xfe#8] ∧ (decodeInstr 0xfe#8 []).1.executes = false := by decide

theorem witness_UnsupportedInstructionsRaise :
    .sdiv ∈ namedUnsupported ++ unassignedLow ++ unassignedHigh ∧
    .unassigned0C ∈ namedUnsupported ++ unassignedLow ++ unassignedHigh ∧
    .unassignedFC ∈ namedUnsupported ++ unassignedLow ++ unassignedHigh := by decide +kernel

/-- The third clause of its conclusion needs an answer of the DataSource, a free value, so it has no concrete step. -/
theorem witness_StuckOnlyBeyondCapacityOrUnanswered :
    step (capped 0 0 (running [0x58#8])) = .fault .stackCapacityExceeded ∧
    step (capped 1 0 { running [0x51#8] with stack := [W 0] }) = .fault .memCapacityExceeded ∧
    accessRange .mload [W 0] = some (0, 32) ∧ accessRange .codecopy [W 7, W 1, W 0] = some (7, 0) := ⟨rfl, rfl, rfl, rfl⟩

theorem witness_BeyondCapacityTheMachineIsStuck_stack :
    ¬ roomOnStack (capped 1 0 (holding [W 0])) ((capped 1 0 (holding [W 0])).stack.length + 1) ∧
    (holding []).pc + 1 < (holding []).code.length ∧ 1 ≤ (holding [W 0]).stack.length := by decide

/-- The zero-size access at offset 33 among them. -/
theorem witness_BeyondCapacityTheMachineIsStuck_memory :
    auToU32 (W 1) = .ok 1 ∧ auToU32 (W 33) = .ok 33 ∧ auToU32 (W 0) = .ok 0 ∧
    ¬ roomInMemory (capped 3 32 (with42 (holding [W 1, W 32, W 0]))) 1 32 ∧
    ¬ roomInMemory (capped 3 32 (with42 (holding [W 32, W 1]))) 32 1 ∧
    ¬ roomInMemory (capped 3 32 (with42 (holding [W 33, W 0, W 0]))) 33 0 := ⟨rfl, rfl, rfl, by decide⟩

theorem witness_EachFaultKindHasItsInstructions : (atEnd 0x01#8).run = .running ∧
    step (atEnd 0x01#8) = .next (faultState .stackUnderflow (atEnd 0x01#8)) ∧ Instr.add.immediate.length ≤ 32 ∧
    exec .add (holding []) = .next (faultState .stackUnderflow (holding [])) ∧
    exec .jump (holding [W 5]) = .next (faultState .invalidJumpDestination (holding [W 5])) ∧
    exec .mload (holding [W (2 ^ 32)]) = .next (faultState .conversionOverflow (holding [W (2 ^ 32)])) ∧
    exec (.push1 []) (atEnd 0x60#8) = .next (faultState .noMoreInstructions (atEnd 0x60#8)) ∧
    exec .sdiv (holding []) = .next (faultState .unsupportedInstruction (holding [])) :=
  ⟨rfl, rfl, by decide, rfl, rfl, rfl, rfl, rfl⟩

theorem witness_EveryStepKeepsTheInvariant : State.reset.Inv ∧
    step State.reset = .next (faultState .noMoreInstructions State.reset) := ⟨reset_inv, rfl⟩

theorem witness_EveryStepKeepsTheInvariant_intact : step (running [0x5b#8]) = .next { running [0x5b#8] with pc := 1 } ∧
    ({ running [0x5b#8] with pc := 1 } : State).intact := ⟨rfl, by decide⟩

theorem witness_ConstructGivesTheResetState : (construct sampleArgs).isSome = true ∧ sampleArgs.height.length = 32 ∧
    sampleArgs.preseed.getD [] = [(W 5, W 8), (W 1, W 0)] ++ (W 5, W 9) :: [] ∧
    sampleArgs.preseed.getD [] = [(W 5, W 8)] ++ (W 1, W 0) :: [(W 5, W 9)] ∧ (∀ p ∈ [(W 5, W 9)], p.1 ≠ W 1) ∧
    (∀ p ∈ sampleArgs.preseed.getD [], p.1 ≠ W 2) :=
  ⟨by decide, by decide, rfl, rfl, by simp; decide, by simp [sampleArgs]; decide⟩

theorem witness_NoStepWritesTheRunParameters :
    step (running [0x5b#8]) = .next { running [0x5b#8] with pc := 1 } := rfl

/-- A next state that has not faulted, for a growing, a storing, a loading and a keeping instruction. -/
theorem witness_MemoryChangesOnlyByItsInstructions :
    after (fun t => t.mem.size) (exec .mload (holding [W 0])) = some 32 ∧
    after (fun t => t.mem.size) (exec .mstore8 (holding [W 32, W 1])) = some 64 ∧
    after (fun t => t.mem.size) (exec .jumpdest (holding [])) = some 0 ∧
    (holding []).mem.size % 32 = 0 ∧ Instr.jumpdest ∉ memoryInstrs ∧ Instr.mload ∉ [Instr.mstore, .mstore8, .codecopy] := by
  decide

theorem witness_PresentKeysStayPresent :
    (after id (exec .sload (storing (W 5) (W 0) (holding [W 5])))).isSome = true ∧
    (after id (exec .sstore (storing (W 5) (W 0) (holding [W 1, W 2])))).isSome = true ∧
    (storing (W 5) (W 0) (holding [])).storage.find (W 5) = some (W 0) := by decide

theorem witness_LogSinkIsAppendOnly : (after id (exec .log4 (holding (wordsUpTo 6)))).isSome = true ∧
    (after id (exec .pc (holding []))).isSome = true ∧ Instr.log4 ∈ logInstrs.map Prod.snd ∧
    Instr.pc ∉ logInstrs.map Prod.snd := by decide

theorem witness_HaltFlagsHaveOneWriter : (after id (exec .suicide (holding [W 0]))).isSome = true ∧
    (after id (exec .revert (holding [W 0, W 0]))).isSome = true ∧ (after id (exec .stop (holding []))).isSome = true := by decide

theorem witness_RunStateTransitions : (holding []).run = .running ∧
    exec .stop (holding []) = .next { holding [] with run := .halted .stop } ∧
    exec .add (holding []) = .next (faultState .stackUnderflow (holding [])) := ⟨rfl, rfl, rfl⟩

theorem witness_UnreadRegistersDoNotInfluenceAStep : Instr.sstore ≠ .sload := by decide

theorem witness_StackPrimitives : roomOnStack (capped 2 0 (holding [W 1])) ((holding [W 1]).stack.length + 1) ∧
    (holding []).stack = [] ∧
    (holding [W 1, W 2]).stack = W 1 :: [W 2] ∧ (holding [W 1]).stack.length ≤ 1 ∧ (holding [W 1]).stack[0]? = some (W 1) ∧
    0 < (holding [W 1]).stack.length ∧ (holding [W 1, W 2]).stack = W 1 :: ([] ++ W 2 :: []) ∧ (holding [W 1]).stack ≠ [] := by
  decide

/-- `n` is the length itself, in a memory beyond its capacity, and one above it with a capacity that just has room. -/
theorem witness_ExpandRoundsUpAndNeverShrinks : (with42 (holding [])).mem.wf ∧ (with42 (holding [])).mem.size % 32 = 0 ∧
    32 ≤ (with42 (holding [])).mem.size ∧ ¬ (capped 0 0 (with42 (holding []))).mem.size < granules 32 ∧
    memFits (capped 0 64 (with42 (holding []))).params (granules 33) = true := by decide

/-- The write ends at the length. -/
theorem witness_MemoryReadAfterWrite : (with42 (holding [])).mem.wf ∧ 30 + [0xaa#8, 0xbb#8].length ≤ (with42 (holding [])).mem.size := by
  decide

theorem witness_CanonicalMemoriesAreEqualData : (with42 (holding [])).mem.wf ∧
    (with42 (holding [])).mem.size = ((with42 (holding [W 1])).mem.write 31 [0x2a#8]).size := by decide

theorem witness_WordConstructionLeftPads : (bytesUpTo 32).length ≤ 32 ∧ 32 < (bytesUpTo 33).length := by decide

theorem witness_CarryLoopComputesAddition : 256 ≤ 256 ∧ addLoop 256 wordMax (W 1) = W 0 := by decide +kernel

theorem witness_DivisionIsRepeatedSubtraction : wordMax ≠ W 0 ∧ W 1 ≠ W 0 ∧ (W 7).toNat ≤ 7 := by decide

theorem witness_ConversionToMachineInteger : (W (2 ^ 32 - 1)).toNat < 2 ^ 32 ∧ 2 ^ 32 ≤ (W (2 ^ 32)).toNat := by decide

theorem witness_HexRenderings : W 1 ≠ W 0 ∧ W 256 ≠ W 0 ∧ wordMax ≠ W 0 := by decide

/-- For every two-operand instruction: a stack that is just deep enough, with a capacity of what it leaves; one that is not. -/
theorem witness_twoOperand : (capped 1 0 (holding [W 1, W 2])).stack = W 1 :: W 2 :: [] ∧
    roomOnStack (capped 1 0 (holding [W 1, W 2])) (0 + 1) ∧ (holding [W 1]).stack.length < 2 := by decide

theorem witness_oneOperand : (capped 1 0 (holding [W 1])).stack = W 1 :: [] ∧
    roomOnStack (capped 1 0 (holding [W 1])) (0 + 1) ∧ (holding []).stack = [] := by decide

theorem witness_threeOperand : (capped 1 0 (holding [W 1, W 2, W 3])).stack = W 1 :: W 2 :: W 3 :: [] ∧
    roomOnStack (capped 1 0 (holding [W 1, W 2, W 3])) (0 + 1) ∧ (holding [W 1, W 2]).stack.length < 3 := by decide

theorem witness_pureRead : roomOnStack (capped 1 0 (holding [])) ((holding []).stack.length + 1) := by decide

/-- The greatest offset the conversion lets through, and the first it does not. -/
theorem witness_offsets : auToU32 (W (2 ^ 32 - 1)) = .ok (2 ^ 32 - 1) ∧ roomInMemory (holding []) (2 ^ 32 - 1) 32 ∧
    roomInMemory (holding []) (2 ^ 32 - 1) 1 ∧ roomInMemory (holding []) (2 ^ 32 - 1) (2 ^ 32 - 1) ∧
    2 ^ 32 ≤ (W (2 ^ 32)).toNat := ⟨rfl, by decide⟩

/-- A zero-size access beyond the capacity has room exactly when it does not expand memory. -/
theorem witness_zero_size : roomInMemory (zeroKeeps (capped 3 32 (holding [W 64, W 0, W 0]))) 64 0 ∧
    roomInMemory (capped 3 32 (holding [W 32, W 0, W 0])) 32 0 ∧
    ¬ roomInMemory (capped 3 32 (holding [W 64, W 0, W 0])) 64 0 := by decide

theorem witness_MloadInstruction : (holding [W 0]).stack = W 0 :: [] ∧ auToU32 (W 0) = .ok 0 ∧
    roomInMemory (capped 1 32 (holding [W 0])) 0 32 ∧ roomOnStack (capped 1 32 (holding [W 0])) (0 + 1) ∧
    (holding [W (2 ^ 32)]).stack = W (2 ^ 32) :: [] ∧ (holding []).stack = [] := ⟨rfl, rfl, by decide⟩

theorem witness_MstoreInstruction : (holding [W 1, W 5]).mem.wf ∧ (holding [W 1, W 5]).stack = W 1 :: W 5 :: [] ∧
    auToU32 (W 1) = .ok 1 ∧ roomInMemory (capped 2 64 (holding [W 1, W 5])) 1 32 ∧
    (holding [W (2 ^ 32), W 5]).stack = W (2 ^ 32) :: W 5 :: [] ∧ (holding [W 1]).stack.length < 2 :=
  ⟨by decide, rfl, rfl, by decide⟩

theorem witness_Mstore8Instruction : (holding [W 31, W 5]).mem.wf ∧ (holding [W 31, W 5]).stack = W 31 :: W 5 :: [] ∧
    auToU32 (W 31) = .ok 31 ∧ roomInMemory (capped 2 32 (holding [W 31, W 5])) 31 1 ∧
    (holding [W 1]).stack.length < 2 := ⟨by decide, rfl, rfl, by decide⟩

/-- The zero-size range and the one that fills the unit. -/
theorem witness_Sha3Instruction : (holding [W 32, W 0]).stack = W 32 :: W 0 :: [] ∧ auToU32 (W 32) = .ok 32 ∧
    auToU32 (W 0) = .ok 0 ∧ roomInMemory (capped 1 32 (holding [W 32, W 0])) 32 0 ∧
    roomInMemory (capped 1 32 (holding [W 0, W 32])) 0 32 ∧ roomOnStack (capped 1 32 (holding [W 32, W 0])) (0 + 1) ∧
    2 ^ 32 ≤ (W (2 ^ 32)).toNat ∧ (holding [W 1]).stack.length < 2 := ⟨rfl, rfl, rfl, by decide⟩

theorem witness_LogInstructions : (1, Instr.log1) ∈ logInstrs ∧
    (holding [W 0, W 0, W 7]).stack = W 0 :: W 0 :: ([W 7] ++ []) ∧ [W 7].length = 1 ∧ auToU32 (W 0) = .ok 0 ∧
    roomInMemory (holding [W 0, W 0, W 7]) 0 0 ∧ (holding [W 0, W 0]).stack = W 0 :: W 0 :: [] ∧
    ([] : List Word).length < 1 ∧ 2 ^ 32 ≤ (W (2 ^ 32)).toNat ∧ (holding [W 0]).stack.length < 2 :=
  ⟨by decide, rfl, rfl, rfl, by decide⟩

theorem witness_CodecopyInstruction : (holding [W 0, W 4, W 2]).mem.wf ∧
    (holding [W 0, W 4, W 2]).stack = W 0 :: W 4 :: W 2 :: [] ∧ auToU32 (W 4) = .ok 4 ∧ auToU32 (W 2) = .ok 2 ∧
    roomInMemory (capped 3 32 (holding [W 0, W 4, W 2])) 0 2 ∧ 2 ^ 32 ≤ (W (2 ^ 32)).toNat ∧
    (holding [W 1, W 2]).stack.length < 3 := ⟨by decide, rfl, rfl, rfl, by decide⟩

theorem witness_CalldataloadInstruction : (holding [W (2 ^ 32 - 1)]).stack = W (2 ^ 32 - 1) :: [] ∧
    auToU32 (W (2 ^ 32 - 1)) = .ok (2 ^ 32 - 1) ∧ roomOnStack (capped 1 0 (holding [W (2 ^ 32 - 1)])) (0 + 1) ∧
    2 ^ 32 ≤ (W (2 ^ 32)).toNat ∧ (holding []).stack = [] := ⟨rfl, rfl, by decide⟩

theorem witness_SloadInstruction : (storing (W 5) (W 0) (holding [W 5])).stack = W 5 :: [] ∧
    (storing (W 5) (W 0) (holding [W 5])).storage.find (W 5) = some (W 0) ∧
    (storing (W 5) (W 0) (holding [W 6])).storage.find (W 6) = none ∧
    roomOnStack (capped 1 0 (holding [W 5])) (0 + 1) ∧ (holding []).stack = [] := by decide

theorem witness_SstoreInstruction : (holding [W 5, W 0]).stack = W 5 :: W 0 :: [] ∧ (holding [W 5]).stack.length < 2 := by decide

theorem witness_OneFetchPerKey : (holding [W 6]).stack = W 6 :: [] ∧ (holding [W 6]).storage.find (W 6) = none ∧
    roomOnStack (capped 1 0 (holding [W 6])) (0 + 1) := by decide

/-- The last byte of the code is a valid destination, the one after it and a byte that is no marker are not. -/
theorem witness_JumpInstructions : auToU32 (W 4) = .ok 4 ∧ auToU32 (W 5) = .ok 5 ∧ auToU32 (W 1) = .ok 1 ∧
    (holding [W 4]).stack = W 4 :: [] ∧ (holding [W 4]).code[4]? = some 0x5b#8 ∧ (holding [W 5]).code[5]? ≠ some 0x5b#8 ∧
    (holding [W 1]).code[1]? ≠ some 0x5b#8 ∧ 2 ^ 32 ≤ (W (2 ^ 32)).toNat ∧ (holding [W 9, W 0]).stack = W 9 :: W 0 :: [] ∧
    (holding [W 4, wordMax]).stack = W 4 :: wordMax :: [] ∧ wordMax ≠ W 0 ∧ (holding [W 4]).stack.length < 2 ∧
    (holding []).stack = [] := ⟨rfl, rfl, rfl, by decide⟩

theorem witness_HaltInstructions : (holding [W 30, W 2]).stack = W 30 :: W 2 :: [] ∧ auToU32 (W 30) = .ok 30 ∧
    auToU32 (W 2) = .ok 2 ∧ roomInMemory (capped 2 32 (holding [W 30, W 2])) 30 2 ∧ 2 ^ 32 ≤ (W (2 ^ 32)).toNat ∧
    (holding [W 1]).stack.length < 2 ∧ (holding [W 7]).stack = W 7 :: [] ∧ (holding []).stack = [] :=
  ⟨rfl, rfl, rfl, by decide⟩

theorem witness_PopAndDupInstructions : (holding [W 7]).stack = W 7 :: [] ∧ (holding []).stack = [] ∧ (2, Instr.dup2) ∈ dups ∧
    (holding [W 1, W 2]).stack = [W 1] ++ W 2 :: [] ∧ [W 1].length + 1 = 2 ∧
    roomOnStack (capped 3 0 (holding [W 1, W 2])) ((holding [W 1, W 2]).stack.length + 1) ∧ (holding [W 1]).stack.length < 2 := by
  decide

/-- The immediate is the last byte of the code, and one byte short of it. -/
theorem witness_PushInstructions : (pushes.map Prod.fst).head? = some 1 ∧ (pushes.map Prod.fst).getLast? = some 32 ∧
    [0xaa#8].length = 1 ∧ (running [0x60#8, 0xaa#8]).pc + 1 < (running [0x60#8, 0xaa#8]).code.length ∧
    roomOnStack (capped 1 0 (running [0x60#8, 0xaa#8])) ((running [0x60#8, 0xaa#8]).stack.length + 1) ∧
    (running [0x60#8]).code.length ≤ (running [0x60#8]).pc + 1 := by decide

theorem witness_StepAtPushReadsItsImmediateFromCode : (running [0x60#8, 0xaa#8]).run = .running ∧
    (running [0x60#8, 0xaa#8]).code.drop (running [0x60#8, 0xaa#8]).pc = 0x60#8 :: [0xaa#8] ∧ (0x60#8).toNat = 0x5f + 1 ∧
    (0x7f#8).toNat = 0x5f + 32 ∧ 1 ≤ [0xaa#8].length ∧ ([] : List Byte).length < 1 ∧
    roomOnStack (capped 1 0 (running [0x60#8, 0xaa#8])) ((running [0x60#8, 0xaa#8]).stack.length + 1) := by decide

theorem witness_SwapInstructions : (1, Instr.swap1) ∈ swaps ∧ (holding [W 1, W 2]).stack = W 1 :: ([] ++ W 2 :: []) ∧
    ([] : List Word).length + 1 = 1 ∧ (holding [W 1]).stack.length ≤ 1 := by decide

end Sys2Proof.Tests
end

section
/-! The stack primitives (10_state.md R24 to R28): for each, what it does on a stack that has the entries it asks for and on one
that has not, and the obligation over them. -/

namespace Sys2Proof.Machine

/-! ## `peek` and `set` -/

theorem peek_of_getElem? {i : Nat} {v : Word} {s : State} (h : s.stack[i]? = some v) (k : Word → Out) :
    peek i s k = k v := by
  simp [peek, h]

theorem peek_of_length_le {i : Nat} {s : State} (h : s.stack.length ≤ i) (k : Word → Out) :
    peek i s k = raise .stackUnderflow s := by
  simp [peek, List.getElem?_eq_none h]

theorem setEntry_of_lt {i : Nat} {s : State} (h : i < s.stack.length) (v : Word) (k : State → Out) :
    setEntry i v s k = k (s.withStack (s.stack.set i v)) :=
  if_pos h

theorem setEntry_of_length_le {i : Nat} {s : State} (h : s.stack.length ≤ i) (v : Word) (k : State → Out) :
    setEntry i v s k = raise .stackUnderflow s :=
  if_neg (Nat.not_lt.mpr h)

/-! ## `swapTop` -/

theorem swapTop_of_length_le {i : Nat} {s : State} (h : s.stack.length ≤ i) (k : State → Out) :
    swapTop i s k = raise .stackUnderflow s :=
  peek_of_length_le h _

theorem swapTop_of_getElem? {i : Nat} {v t : Word} {s : State} (hv : s.stack[i]? = some v) (ht : s.stack[0]? = some t)
    (k : State → Out) : swapTop i s k = k (s.withStack ((s.stack.set 0 v).set i t)) := by
  obtain ⟨hlen, -⟩ | ⟨v', t', hv', ht', e⟩ := swapTop_cases i s k
  · simp [List.getElem?_eq_none hlen] at hv
  · obtain rfl : v = v' := Option.some.inj (hv.symm.trans hv')
    obtain rfl : t = t' := Option.some.inj (ht.symm.trans ht')
    exact e

/-- The entries `mid` between the two exchanged ones and `rest` below them keep their places. -/
theorem swapTop_exchanges {t v : Word} {mid rest : List Word} {s : State} (h : s.stack = t :: (mid ++ v :: rest))
    (k : State → Out) : swapTop (mid.length + 1) s k = k (s.withStack (v :: (mid ++ t :: rest))) := by
  have hset : (s.stack.set 0 v).set (mid.length + 1) t = v :: (mid ++ t :: rest) := by simp [h]
  rw [swapTop_of_getElem? (v := v) (t := t) (by simp [h]) (by simp [h]), hset]

theorem swapTop_zero {s : State} (h : s.stack ≠ []) (k : State → Out) : swapTop 0 s k = k s := by
  obtain ⟨t, rest, hs⟩ := List.exists_cons_of_ne_nil h
  have ht : s.stack[0]? = some t := by simp [hs]
  have hset : (s.stack.set 0 t).set 0 t = s.stack := by simp [hs]
  rw [swapTop_of_getElem? ht ht, hset]
  rfl

end Sys2Proof.Machine

namespace Sys2Proof.Proofs

open Sys2Proof.Machine

/-- Settles O24: each primitive's own lemmas, with `withStack` written out as the record update it is. -/
theorem stackPrimitives : Obligations.StackPrimitives := fun _ =>
  ⟨fun _ k room => push_fits room k,
    fun k empty => pop_nil empty k,
    fun _ _ k hs => pop_cons hs k,
    fun _ k absent => peek_of_length_le absent k,
    fun _ _ k present => peek_of_getElem? present k,
    fun _ v k absent => setEntry_of_length_le absent v k,
    fun _ v k present => setEntry_of_lt present v k,
    fun _ k absent => swapTop_of_length_le absent k,
    fun _ _ _ _ k hs => swapTop_exchanges hs k,
    fun k nonempty => swapTop_zero nonempty k⟩

end Sys2Proof.Proofs
end

section
/-! The step of a running machine (40_dispatch.md R110 to R113): what it fetches, on both sides of the end of the code, and
what it does with an instruction that does not execute. -/

namespace Sys2Proof.Machine

theorem step_of_running {s : State} (h : s.run = .running) : step s = fetchInstr s fun i => exec i s := by
  simp [step, h]

/-! ## Fetch -/

theorem fetchInstr_of_length_le {s : State} (h : s.code.length ≤ s.pc) (k : Instr → Out) :
    fetchInstr s k = raise .noMoreInstructions s := by
  simp [fetchInstr, List.drop_eq_nil_of_le h, decode]

theorem fetchInstr_of_drop {s : State} {op : Byte} {following : List Byte} (h : s.code.drop s.pc = op :: following)
    (k : Instr → Out) : fetchInstr s k = k (decodeInstr op following).1 := by
  simp [fetchInstr, h, decode]

theorem code_drop_of_getElem? {s : State} {op : Byte} (h : s.code[s.pc]? = some op) :
    s.code.drop s.pc = op :: s.code.drop (s.pc + 1) := by
  obtain ⟨hlt, rfl⟩ := List.getElem?_eq_some_iff.mp h
  exact List.drop_eq_getElem_cons hlt

/-! ## The step at what it fetches -/

theorem step_of_length_le {s : State} (hrun : s.run = .running) (h : s.code.length ≤ s.pc) :
    step s = raise .noMoreInstructions s :=
  (step_of_running hrun).trans (fetchInstr_of_length_le h _)

theorem step_of_drop {s : State} {op : Byte} {following : List Byte} (hrun : s.run = .running)
    (h : s.code.drop s.pc = op :: following) : step s = exec (decodeInstr op following).1 s :=
  (step_of_running hrun).trans (fetchInstr_of_drop h _)

/-! ## The instructions that do not execute -/

/-- Instruction by instruction: for one that executes `h` is absurd, and the arm of each of the 148 others is the fault itself,
before any operand is popped (R113). -/
theorem exec_of_not_executes {i : Instr} (h : i.executes = false) (s : State) :
    exec i s = raise .unsupportedInstruction s := by
  cases i <;> cases h <;> rfl

end Sys2Proof.Machine

namespace Sys2Proof.Proofs

open Sys2Proof.Machine

/-- Settles O5: past the end of the code fetch finds no byte; before it, the rest of the code begins with the byte at `pc`. -/
theorem fetchReadsTheByteAtPcOrFaults : Obligations.FetchReadsTheByteAtPcOrFaults := fun _ hrun =>
  ⟨fun hend => step_of_length_le hrun hend, fun _ hop => step_of_drop hrun (code_drop_of_getElem? hop)⟩

/-- Settles O7: the step is `exec` of the decoded instruction, and its arm is the fault. -/
theorem nonExecutingByteRaisesUnsupported : Obligations.NonExecutingByteRaisesUnsupported :=
  fun s _ _ hrun hdrop hexec => (step_of_drop hrun hdrop).trans (exec_of_not_executes hexec s)

end Sys2Proof.Proofs
end

section
/-! The byte view of a Word (41_alu.md R130, R131): its bytes by value, the value its bytes spell, and that byte sequences of
one length are equal, or in lexicographic order, exactly when their values are. -/

namespace Sys2Proof.Machine

open Sys2Proof.Claims

theorem W_toNat_of_lt {n : Nat} (h : n < 2 ^ 256) : (W n).toNat = n := by
  rw [W_toNat, Nat.mod_eq_of_lt h]

theorem W_toNat_eq_self (w : Word) : W w.toNat = w :=
  BitVec.eq_of_toNat_eq (W_toNat_of_lt w.isLt)

/-! ## Byte `i` is `val(w) div 256^(31-i) mod 256` -/

theorem extractLsb'_byte_eq_ofNat (w : Word) (k : Nat) :
    w.extractLsb' (8 * k) 8 = BitVec.ofNat 8 (w.toNat / 256 ^ k) := by
  have hpow : 2 ^ (8 * k) = 256 ^ k := Nat.pow_mul 2 8 k
  apply BitVec.eq_of_toNat_eq
  rw [BitVec.extractLsb'_toNat, BitVec.toNat_ofNat, Nat.shiftRight_eq_div_pow, hpow]

theorem auBytes32_eq_map_wordByte (w : Word) : auBytes32 w = (List.range 32).map (wordByte w) :=
  List.map_congr_left fun _ _ => extractLsb'_byte_eq_ofNat w _

theorem auBytes32_getD {w : Word} {i : Nat} (h : i < 32) : (auBytes32 w).getD i 0#8 = wordByte w i := by
  simp [auBytes32_eq_map_wordByte, h]

theorem wordByte_toNat (w : Word) (i : Nat) : (wordByte w i).toNat = w.toNat / 256 ^ (31 - i) % 256 :=
  BitVec.toNat_ofNat _ _

/-! ## The value a byte sequence spells -/

theorem bigEndian_succ (n : Nat) (b : Nat → Byte) :
    bigEndian (n + 1) b = (b 0).toNat * 256 ^ n + bigEndian n fun k => b (k + 1) := by
  simp [bigEndian, List.range_succ_eq_map, Function.comp_def, Nat.sub_sub, Nat.add_comm]

theorem natOfBytes_eq_bigEndian (bs : List Byte) : natOfBytes bs = bigEndian bs.length fun k => bs.getD k 0#8 := by
  induction bs with
  | nil => rfl
  | cons b bs ih => simp [natOfBytes_cons, bigEndian_succ, ih]

theorem natOfBytes_replicate_zero_append (n : Nat) (bs : List Byte) :
    natOfBytes (List.replicate n 0#8 ++ bs) = natOfBytes bs := by
  induction n with
  | zero => rfl
  | succ n ih => simpa [List.replicate_succ, natOfBytes_cons] using ih

/-- The `n` base-256 digits of a natural spell it, modulo `256^n`. -/
theorem natOfBytes_map_range (v n : Nat) :
    natOfBytes ((List.range n).map fun i => BitVec.ofNat 8 (v / 256 ^ (n - 1 - i))) = v % 256 ^ n := by
  induction n with
  | zero => simp [Nat.mod_one]
  | succ n ih =>
    simp only [Nat.sub_sub, Nat.add_comm 1] at ih
    simp [List.range_succ_eq_map, Function.comp_def, natOfBytes_cons, ih, Nat.mod_pow_succ, Nat.mul_comm, Nat.add_comm]

theorem natOfBytes_auBytes32 (w : Word) : natOfBytes (auBytes32 w) = w.toNat := by
  have hlt : w.toNat < 256 ^ 32 := w.isLt
  rw [auBytes32_eq_map_wordByte]
  exact (natOfBytes_map_range w.toNat 32).trans (Nat.mod_eq_of_lt hlt)

/-! ## Byte sequences of one length -/

/-- The first place where two sequences differ decides between their values. -/
theorem natOfBytes_cons_lt_cons {x y : Byte} {xs ys : List Byte} (hlen : xs.length = ys.length) (h : x.toNat < y.toNat) :
    natOfBytes (x :: xs) < natOfBytes (y :: ys) := by
  have htail := natOfBytes_lt xs
  have hhead : (x.toNat + 1) * 256 ^ ys.length ≤ y.toNat * 256 ^ ys.length := Nat.mul_le_mul_right _ h
  rw [hlen] at htail
  rw [Nat.add_mul] at hhead
  rw [natOfBytes_cons, natOfBytes_cons, hlen]
  omega

theorem eq_of_natOfBytes_eq {xs ys : List Byte} (hlen : xs.length = ys.length) (h : natOfBytes xs = natOfBytes ys) :
    xs = ys := by
  induction xs generalizing ys with
  | nil => exact (List.length_eq_zero_iff.mp hlen.symm).symm
  | cons x xs ih =>
    obtain _ | ⟨y, ys⟩ := ys
    · cases hlen
    have htails : xs.length = ys.length := Nat.succ.inj hlen
    obtain hlt | heq | hgt := Nat.lt_trichotomy x.toNat y.toNat
    · exact absurd h (natOfBytes_cons_lt_cons htails hlt).ne
    · obtain rfl := BitVec.eq_of_toNat_eq heq
      rw [natOfBytes_cons, natOfBytes_cons, htails] at h
      rw [ih htails (Nat.add_left_cancel h)]
    · exact absurd h (natOfBytes_cons_lt_cons htails.symm hgt).ne'

theorem lexLt_iff {xs ys : List Byte} (hlen : xs.length = ys.length) :
    lexLt xs ys = true ↔ natOfBytes xs < natOfBytes ys := by
  induction xs generalizing ys with
  | nil =>
    obtain rfl := List.length_eq_zero_iff.mp hlen.symm
    simp [lexLt]
  | cons x xs ih =>
    obtain _ | ⟨y, ys⟩ := ys
    · cases hlen
    have htails : xs.length = ys.length := Nat.succ.inj hlen
    obtain hlt | heq | hgt := Nat.lt_trichotomy x.toNat y.toNat
    · have hne : x ≠ y := fun e => hlt.ne (congrArg _ e)
      simp [lexLt, hne, hlt, natOfBytes_cons_lt_cons htails hlt]
    · obtain rfl := BitVec.eq_of_toNat_eq heq
      simp [lexLt, ih htails, natOfBytes_cons, htails]
    · have hne : x ≠ y := fun e => hgt.ne' (congrArg _ e)
      simp [lexLt, hne, hgt.asymm, (natOfBytes_cons_lt_cons htails.symm hgt).asymm]

theorem auBytes32_inj {v w : Word} : auBytes32 v = auBytes32 w ↔ v = w := by
  refine ⟨fun h => BitVec.eq_of_toNat_eq ?_, congrArg auBytes32⟩
  rw [← natOfBytes_auBytes32 v, h, natOfBytes_auBytes32]

/-! ## Construction -/

theorem W_natOfBytes_toNat {bs : List Byte} (h : bs.length ≤ 32) : (W (natOfBytes bs)).toNat = natOfBytes bs :=
  W_toNat_of_lt ((natOfBytes_lt bs).trans_le (Nat.pow_le_pow_right (n := 256) (by decide) h))

theorem auBytes32_W_natOfBytes {bs : List Byte} (h : bs.length ≤ 32) :
    auBytes32 (W (natOfBytes bs)) = List.replicate (32 - bs.length) 0#8 ++ bs := by
  apply eq_of_natOfBytes_eq
  · simp [h]
  · rw [natOfBytes_auBytes32, natOfBytes_replicate_zero_append, W_natOfBytes_toNat h]

theorem auWord_auBytes32 (w : Word) : auWord (auBytes32 w) = .ok w := by
  rw [auWord_ok _ (auBytes32_length w).le, natOfBytes_auBytes32, W_toNat_eq_self]

theorem toNat_eq_bigEndian (w : Word) : w.toNat = bigEndian 32 fun i => (auBytes32 w).getD i 0#8 := by
  rw [← natOfBytes_auBytes32 w, natOfBytes_eq_bigEndian, auBytes32_length]

end Sys2Proof.Machine

namespace Sys2Proof.Proofs

open Sys2Proof.Machine

/-- Settles O28: the left-padded sequence spells the same value, and 32 bytes with one value are one sequence. -/
theorem wordConstructionLeftPads : Obligations.WordConstructionLeftPads :=
  ⟨fun w => ⟨auBytes32_length w, auWord_auBytes32 w, toNat_eq_bigEndian w⟩,
    fun bs h => ⟨W (natOfBytes bs), auWord_ok bs h, auBytes32_W_natOfBytes h,
      (W_natOfBytes_toNat h).trans (natOfBytes_eq_bigEndian bs)⟩,
    fun bs h => auWord_error bs h⟩

end Sys2Proof.Proofs
end

section
/-! The comparisons (41_alu.md R150 to R156). -/

namespace Sys2Proof.Machine

theorem auGt_eq_auLt_swap (a b : Word) : auGt a b = auLt b a := rfl

theorem auLt_eq_lexLt (a b : Word) : auLt a b = lexLt (auBytes32 a) (auBytes32 b) := by
  rw [Bool.eq_iff_iff, auLt_iff, lexLt_iff (by simp), natOfBytes_auBytes32, natOfBytes_auBytes32]

theorem auEq_iff_auBytes32_eq (a b : Word) : auEq a b = true ↔ auBytes32 a = auBytes32 b :=
  (auEq_iff a b).trans auBytes32_inj.symm

theorem auEq_iff_toNat_eq (a b : Word) : auEq a b = true ↔ a.toNat = b.toNat :=
  (auEq_iff a b).trans BitVec.toNat_inj.symm

/-- R156: exactly one of `lt`, `eq`, `gt` holds. -/
theorem auLt_auEq_auGt_exactly_one (a b : Word) :
    (auLt a b = true ∧ auEq a b = false ∧ auGt a b = false) ∨
    (auLt a b = false ∧ auEq a b = true ∧ auGt a b = false) ∨
    (auLt a b = false ∧ auEq a b = false ∧ auGt a b = true) := by
  simp only [← Bool.not_eq_true, auLt_iff, auGt_iff, auEq_iff_toNat_eq]
  omega

end Sys2Proof.Machine

namespace Sys2Proof.Proofs

open Sys2Proof.Machine

/-- Settles O36: byte sequences of one length are ordered as the values they spell; the rest is the order of the naturals. -/
theorem comparisonsAreLexicographicTotalOrder : Obligations.ComparisonsAreLexicographicTotalOrder := fun a b =>
  ⟨auLt_iff a b, auLt_eq_lexLt a b, auGt_eq_auLt_swap a b, auEq_iff_auBytes32_eq a b, auEq_iff_toNat_eq a b, rfl,
    auLe_iff a b, rfl, auGe_iff a b, rfl, auLt_auEq_auGt_exactly_one a b⟩

end Sys2Proof.Proofs
end

section
/-! The bitwise operations (41_alu.md R145 to R148), byte by byte: to take a byte of a Word commutes with each of them. -/

namespace Sys2Proof.Machine

theorem auBytes32_zipWith {f : Word → Word → Word} {op : Byte → Byte → Byte} (a b : Word)
    (hbyte : ∀ start, (f a b).extractLsb' start 8 = op (a.extractLsb' start 8) (b.extractLsb' start 8)) :
    auBytes32 (f a b) = List.zipWith op (auBytes32 a) (auBytes32 b) := by
  simp only [auBytes32, List.zipWith_map, List.zipWith_self, hbyte]

theorem byte_not_eq (x : Byte) : ~~~x = BitVec.ofNat 8 (255 - x.toNat) := by
  apply BitVec.eq_of_toNat_eq
  rw [BitVec.toNat_not, BitVec.toNat_ofNat]
  omega

theorem extractLsb'_byte_not {w : Word} {i : Nat} (h : i < 32) :
    (~~~w).extractLsb' (8 * (31 - i)) 8 = ~~~w.extractLsb' (8 * (31 - i)) 8 := by
  apply BitVec.eq_of_getLsbD_eq
  intro j hj
  have hin : 8 * (31 - i) + j < 256 := by omega
  simp [hj, hin]

theorem auBytes32_auNot (a : Word) :
    auBytes32 (auNot a) = (auBytes32 a).map fun x => BitVec.ofNat 8 (255 - x.toNat) := by
  rw [auBytes32, auBytes32, List.map_map]
  apply List.map_congr_left
  intro i hi
  rw [auNot, extractLsb'_byte_not (List.mem_range.mp hi), byte_not_eq]
  rfl

end Sys2Proof.Machine

namespace Sys2Proof.Proofs

open Sys2Proof.Machine

/-- Settles O35: bit by bit each is the operation of `BitVec`, and to take a byte commutes with it. -/
theorem bitwiseOperationsAreByteWise : Obligations.BitwiseOperationsAreByteWise := fun a b =>
  ⟨fun k hk => ⟨BitVec.getLsbD_and, BitVec.getLsbD_or, BitVec.getLsbD_xor, by simp [auNot, hk]⟩,
    auBytes32_zipWith a b fun _ => BitVec.extractLsb'_and,
    auBytes32_zipWith a b fun _ => BitVec.extractLsb'_or,
    auBytes32_zipWith a b fun _ => BitVec.extractLsb'_xor,
    auBytes32_auNot a,
    BitVec.toNat_not⟩

end Sys2Proof.Proofs
end

section
/-! The shifts (41_alu.md R142, R143): by value, and as repeated single-bit steps of the byte view. -/

namespace Sys2Proof.Machine

/-! ## By value -/

theorem auShl_eq (a : Word) (n : U32) : auShl a n = a <<< n.toNat := by
  apply BitVec.eq_of_toNat_eq
  rw [BitVec.toNat_shiftLeft, Nat.shiftLeft_eq, auShl]
  split
  next => exact W_toNat _
  next hn =>
    have hdvd : 2 ^ 256 ∣ a.toNat * 2 ^ n.toNat := (Nat.pow_dvd_pow 2 (Nat.not_lt.mp hn)).mul_left _
    exact (Nat.mod_eq_zero_of_dvd hdvd).symm

theorem auShr_eq (a : Word) (n : U32) : auShr a n = a >>> n.toNat := by
  apply BitVec.eq_of_toNat_eq
  rw [BitVec.toNat_ushiftRight, Nat.shiftRight_eq_div_pow, auShr]
  split
  next => exact W_toNat_of_lt ((Nat.div_le_self _ _).trans_lt a.isLt)
  next hn =>
    have hlt : a.toNat < 2 ^ n.toNat := a.isLt.trans_le (Nat.pow_le_pow_right (by decide) (Nat.not_lt.mp hn))
    exact (Nat.div_eq_of_lt hlt).symm

theorem auShl_toNat (a : Word) (n : U32) : (auShl a n).toNat = a.toNat * 2 ^ n.toNat % 2 ^ 256 := by
  rw [auShl_eq, BitVec.toNat_shiftLeft, Nat.shiftLeft_eq]

theorem auShr_toNat (a : Word) (n : U32) : (auShr a n).toNat = a.toNat / 2 ^ n.toNat := by
  rw [auShr_eq, BitVec.toNat_ushiftRight, Nat.shiftRight_eq_div_pow]

/-! ## Bit by bit -/

theorem auShl_getLsbD (a : Word) (n : U32) {k : Nat} (hk : k < 256) :
    (auShl a n).getLsbD k = (decide (n.toNat ≤ k) && a.getLsbD (k - n.toNat)) := by
  simp only [auShl_eq, BitVec.getLsbD_shiftLeft, hk, ← decide_not, Nat.not_lt, decide_true, Bool.true_and]

theorem auShr_getLsbD (a : Word) (n : U32) (k : Nat) :
    (auShr a n).getLsbD k = (decide (k + n.toNat ≤ 255) && a.getLsbD (k + n.toNat)) := by
  rw [auShr_eq, BitVec.getLsbD_ushiftRight, Nat.add_comm]
  by_cases hin : k + n.toNat ≤ 255
  · simp [hin]
  · simp [hin, BitVec.getLsbD_of_ge a (k + n.toNat) (by omega)]

/-! ## One byte step -/

theorem shiftLeft_one_toNat_div (a : Word) {k : Nat} (hk : k < 32) :
    (a <<< 1).toNat / 256 ^ k % 256 = a.toNat * 2 / 256 ^ k % 256 := by
  have hsplit : 2 ^ 256 = 256 ^ k * 256 ^ (32 - k) := by
    rw [← Nat.pow_add, Nat.add_sub_cancel' hk.le]
    rfl
  have hdvd : 256 ∣ 256 ^ (32 - k) := dvd_pow_self _ (Nat.sub_ne_zero_of_lt hk)
  rw [BitVec.toNat_shiftLeft, Nat.shiftLeft_eq, Nat.pow_one, hsplit, Nat.mod_mul_right_div_self,
    Nat.mod_mod_of_dvd _ hdvd]

/-- A byte of the doubled Word takes the top bit of the byte below it. -/
theorem double_div_pow_succ (v k : Nat) :
    v * 2 / 256 ^ (k + 1) % 256 = (v / 256 ^ (k + 1) % 256 * 2 % 256 + v / 256 ^ k % 256 / 128) % 256 := by
  have hdouble : v * 2 / 256 ^ (k + 1) = v / 256 ^ k / 128 := by
    rw [Nat.div_div_eq_div_mul, ← Nat.mul_div_mul_right v (256 ^ k * 128) (by decide : 0 < 2), Nat.pow_succ, Nat.mul_assoc]
  rw [hdouble, Nat.pow_succ, ← Nat.div_div_eq_div_mul]
  omega

theorem auBytes32_shiftLeft_one (a : Word) : auBytes32 (a <<< 1) = shlByteStep (auBytes32 a) := by
  rw [auBytes32_eq_map_wordByte, shlByteStep]
  apply List.map_congr_left
  intro i hi
  have hi : i < 32 := List.mem_range.mp hi
  apply BitVec.eq_of_toNat_eq
  rw [wordByte_toNat, shiftLeft_one_toNat_div a (by omega)]
  split
  next h =>
    have hbelow : 31 - i = 31 - (i + 1) + 1 := by omega
    rw [auBytes32_getD hi, auBytes32_getD (by omega), wordByte_toNat, wordByte_toNat, hbelow, double_div_pow_succ,
      BitVec.toNat_ofNat]
  next h =>
    obtain rfl : i = 31 := by omega
    rw [auBytes32_getD hi, wordByte_toNat, BitVec.toNat_ofNat, Nat.sub_self, Nat.pow_zero, Nat.div_one, Nat.div_one]
    omega

theorem auBytes32_ushiftRight_one (a : Word) : auBytes32 (a >>> 1) = shrByteStep (auBytes32 a) := by
  rw [auBytes32_eq_map_wordByte, shrByteStep]
  apply List.map_congr_left
  intro i hi
  have hi : i < 32 := List.mem_range.mp hi
  apply BitVec.eq_of_toNat_eq
  rw [wordByte_toNat, BitVec.toNat_ushiftRight, Nat.shiftRight_eq_div_pow, Nat.pow_one, Nat.div_right_comm]
  split
  next h =>
    have htop : a.toNat / 256 ^ 31 < 256 := Nat.div_lt_of_lt_mul a.isLt
    subst h
    rw [auBytes32_getD hi, wordByte_toNat, BitVec.toNat_ofNat, Nat.mod_eq_of_lt htop]
  next h =>
    have habove : 31 - (i - 1) = 31 - i + 1 := by omega
    rw [auBytes32_getD hi, auBytes32_getD (by omega), wordByte_toNat, wordByte_toNat, BitVec.toNat_ofNat, habove,
      Nat.pow_succ, ← Nat.div_div_eq_div_mul]
    omega

/-! ## `n` byte steps -/

theorem repeatByteStep_auBytes32 {f : List Byte → List Byte} {g : Word → Word}
    (hstep : ∀ a, auBytes32 (g a) = f (auBytes32 a)) (n : Nat) (a : Word) :
    repeatByteStep f n (auBytes32 a) = auBytes32 (g^[n] a) := by
  induction n generalizing a with
  | zero => rfl
  | succ n ih => rw [repeatByteStep, ← hstep, ih, Function.iterate_succ_apply]

theorem iterate_shiftLeft_one (n : Nat) (a : Word) : (fun w : Word => w <<< 1)^[n] a = a <<< n := by
  induction n with
  | zero => simp
  | succ n ih => rw [Function.iterate_succ_apply', ih, BitVec.shiftLeft_add]

theorem iterate_ushiftRight_one (n : Nat) (a : Word) : (fun w : Word => w >>> 1)^[n] a = a >>> n := by
  induction n with
  | zero => simp
  | succ n ih => rw [Function.iterate_succ_apply', ih, BitVec.shiftRight_add]

theorem auBytes32_auShl (a : Word) (n : U32) :
    auBytes32 (auShl a n) = repeatByteStep shlByteStep n.toNat (auBytes32 a) := by
  rw [repeatByteStep_auBytes32 auBytes32_shiftLeft_one, iterate_shiftLeft_one, auShl_eq]

theorem auBytes32_auShr (a : Word) (n : U32) :
    auBytes32 (auShr a n) = repeatByteStep shrByteStep n.toNat (auBytes32 a) := by
  rw [repeatByteStep_auBytes32 auBytes32_ushiftRight_one, iterate_ushiftRight_one, auShr_eq]

end Sys2Proof.Machine

namespace Sys2Proof.Proofs

open Sys2Proof.Machine

/-- Settles O34: a byte step is a shift by one bit, and `n` shifts by one bit are a shift by `n`. -/
theorem shiftsAreRepeatedByteSteps : Obligations.ShiftsAreRepeatedByteSteps := fun a n =>
  ⟨auShl_toNat a n, auShr_toNat a n, fun _ hk => auShl_getLsbD a n hk, fun k _ => auShr_getLsbD a n k,
    auBytes32_auShl a n, auBytes32_auShr a n⟩

end Sys2Proof.Proofs
end

section
/-! Addition, subtraction, multiplication and division (41_alu.md R133 to R140): by value, and as the loops of the source. -/

namespace Sys2Proof.Machine

/-! ## Addition and subtraction -/

theorem auAdd_zero (a : Word) : auAdd a (W 0) = a := by
  rw [auAdd_eq, BitVec.add_zero]

theorem auSub_toNat (a b : Word) :
    (auSub a b).toNat = if b.toNat ≤ a.toNat then a.toNat - b.toNat else a.toNat + 2 ^ 256 - b.toNat := by
  have ha := a.isLt
  have hb := b.isLt
  unfold auSub
  split
  · exact W_toNat_of_lt (by omega)
  · exact W_toNat_of_lt (by simp only [wordModulus]; omega)

/-- R135: subtraction adds the two's complement. -/
theorem auSub_eq_auAdd_auNot (a b : Word) : auSub a b = auAdd a (auAdd (auNot b) (W 1)) := by
  rw [auSub_eq, auAdd_eq, auAdd_eq, auNot, BitVec.sub_eq_add_neg, BitVec.neg_eq_not_add]

/-! ## The carry loop -/

/-- The sum without carries and the carries, shifted by one place, make up the sum. -/
theorem xor_add_two_mul_and (x y : Nat) : (x ^^^ y) + 2 * (x &&& y) = x + y := by
  induction x using Nat.strongRecOn generalizing y with
  | ind x ih =>
    obtain rfl | hpos := Nat.eq_zero_or_pos x
    · simp
    have hhalf := ih (x / 2) (by omega) (y / 2)
    have hxor : (x ^^^ y) % 2 = (x + y) % 2 := Nat.xor_mod_two_eq
    have hand : (x &&& y) % 2 = 1 ↔ x % 2 = 1 ∧ y % 2 = 1 := Nat.and_mod_two_eq_one
    rw [← Nat.xor_div_two, ← Nat.and_div_two] at hhalf
    omega

theorem carryStep_keeps_sum (x y : Word) : auAdd (auXor x y) (auShl (auAnd x y) 1#32) = auAdd x y := by
  apply BitVec.eq_of_toNat_eq
  rw [auAdd_toNat, auAdd_toNat, auShl_toNat, Nat.add_mod_mod, ← xor_add_two_mul_and x.toNat y.toNat, Nat.mul_comm 2]
  rfl

/-- One iteration moves the lowest place where a carry can stand up by one. -/
theorem carryStep_low_bits_zero {x y : Word} {k : Nat} (hk : k < 256) (h : y.toNat % 2 ^ k = 0) :
    (auShl (auAnd x y) 1#32).toNat % 2 ^ (k + 1) = 0 := by
  have hdvd : 2 ^ (k + 1) ∣ 2 ^ 256 := Nat.pow_dvd_pow 2 hk
  have hand : (x.toNat &&& y.toNat) % 2 ^ k = 0 := by rw [Nat.and_mod_two_pow, h, Nat.and_zero]
  rw [auShl_toNat, Nat.mod_mod_of_dvd _ hdvd, auAnd, BitVec.toNat_and, Nat.pow_succ]
  simp [Nat.mul_mod_mul_right, hand]

theorem eq_zero_of_low_bits_zero {y : Word} (h : y.toNat % 2 ^ 256 = 0) : y = W 0 :=
  BitVec.eq_of_toNat_eq ((Nat.mod_eq_of_lt y.isLt).symm.trans h)

/-- Enough fuel for every place where a carry can still stand. -/
theorem addLoop_eq_of_low_bits_zero {fuel k : Nat} {x y : Word} (hfuel : 256 ≤ fuel + k) (hk : k ≤ 256)
    (hlow : y.toNat % 2 ^ k = 0) : addLoop fuel x y = auAdd x y := by
  induction fuel generalizing k x y with
  | zero =>
    obtain rfl : k = 256 := by omega
    rw [addLoop, eq_zero_of_low_bits_zero hlow, auAdd_zero]
  | succ fuel ih =>
    rw [addLoop]
    split
    next hcarry =>
      have hlt : k < 256 := by
        refine hk.lt_of_ne fun hfull => (auNe_iff y (W 0)).mp hcarry ?_
        subst hfull
        exact eq_zero_of_low_bits_zero hlow
      rw [ih (by omega) hlt (carryStep_low_bits_zero hlt hlow), carryStep_keeps_sum]
    next hdone =>
      obtain rfl : y = W 0 := by rwa [auNe_iff, not_not] at hdone
      rw [auAdd_zero]

/-! ## Multiplication -/

theorem mulLoop_eq (a : Word) (n : Nat) : mulLoop a n = W (a.toNat * n) := by
  induction n with
  | zero => rfl
  | succ n ih =>
    apply BitVec.eq_of_toNat_eq
    rw [mulLoop, auAdd_toNat, ih, W_toNat, W_toNat, Nat.mod_add_mod, Nat.mul_succ]

/-! ## Division -/

theorem toNat_pos_of_ne_zero {b : Word} (h : b ≠ W 0) : 0 < b.toNat :=
  Nat.pos_of_ne_zero fun hzero => h (BitVec.eq_of_toNat_eq hzero)

theorem W_div_toNat (a b : Word) : (W (a.toNat / b.toNat)).toNat = a.toNat / b.toNat :=
  W_toNat_of_lt ((Nat.div_le_self _ _).trans_lt a.isLt)

theorem W_mod_toNat (a b : Word) : (W (a.toNat % b.toNat)).toNat = a.toNat % b.toNat :=
  W_toNat_of_lt ((Nat.mod_le _ _).trans_lt a.isLt)

/-- Each iteration of the loop lowers what is left, so as much fuel as that is enough. -/
theorem divLoop_eq {b : Word} (hb : b ≠ W 0) {fuel : Nat} (q : Nat) {r : Word} (hfuel : r.toNat ≤ fuel) :
    divLoop b fuel q r = (q + r.toNat / b.toNat, W (r.toNat % b.toNat)) := by
  have hpos := toNat_pos_of_ne_zero hb
  induction fuel generalizing q r with
  | zero =>
    obtain rfl : r = W 0 := BitVec.eq_of_toNat_eq (Nat.le_zero.mp hfuel)
    simp [divLoop]
  | succ fuel ih =>
    rw [divLoop]
    split
    next hge =>
      have hle : b.toNat ≤ r.toNat := (auGe_iff r b).mp hge
      have hsub : (auSub r b).toNat = r.toNat - b.toNat := by rw [auSub_toNat, if_pos hle]
      rw [ih _ (by omega), hsub, Nat.div_eq_sub_div hpos hle, Nat.mod_eq_sub_mod hle, Nat.add_assoc, Nat.add_comm 1]
    next hlt =>
      have hlt : r.toNat < b.toNat := by rwa [auGe_iff, Nat.not_le] at hlt
      rw [Nat.div_eq_of_lt hlt, Nat.mod_eq_of_lt hlt, Nat.add_zero, W_toNat_eq_self]

end Sys2Proof.Machine

namespace Sys2Proof.Proofs

open Sys2Proof.Machine

/-- Settles O29: the unit's addition and subtraction are those of `BitVec`, whose laws these are. -/
theorem additionAndSubtractionWrap : Obligations.AdditionAndSubtractionWrap := by
  intro a b c
  refine ⟨auAdd_toNat a b, auSub_toNat a b, auSub_eq_auAdd_auNot a b, ?_, ?_, ?_, auAdd_zero a⟩
  · rw [auAdd_eq, auAdd_eq, BitVec.add_comm]
  · simp only [auAdd_eq, BitVec.add_assoc]
  · rw [auSub_eq, BitVec.sub_self]

/-- Settles O30: an iteration keeps the sum and clears one more low bit of the carry, so after 256 no carry is left. -/
theorem carryLoopComputesAddition : Obligations.CarryLoopComputesAddition := by
  refine ⟨carryStep_keeps_sum, fun x y k hk => ?_, fun a b fuel hfuel => ?_⟩
  · induction k with
    | zero => exact Nat.mod_one _
    | succ k ih =>
      rw [Function.iterate_succ_apply']
      exact carryStep_low_bits_zero hk (ih (Nat.le_of_lt hk))
  · exact addLoop_eq_of_low_bits_zero (k := 0) hfuel (Nat.zero_le _) (Nat.mod_one _)

/-- Settles O31: after `n` additions the loop holds `val(a) · n`. -/
theorem multiplicationIsRepeatedAddition : Obligations.MultiplicationIsRepeatedAddition := fun a b =>
  ⟨auMul_toNat a b, mulLoop_eq a b.toNat, by rw [auMul_eq, auMul_eq, BitVec.mul_comm]⟩

/-- Settles O32: quotient and remainder fit in a Word, and the loop counts the quotient until the remainder is left. -/
theorem divisionIsRepeatedSubtraction : Obligations.DivisionIsRepeatedSubtraction := by
  refine ⟨fun _ => ⟨rfl, rfl⟩, fun a b hb => ?_⟩
  refine ⟨W (a.toNat / b.toNat), W (a.toNat % b.toNat), auDiv_of_ne a b hb, auMod_of_ne a b hb, W_div_toNat a b,
    W_mod_toNat a b, ?_, ?_, fun fuel hfuel => ?_⟩
  · rw [W_mod_toNat]
    exact Nat.mod_lt _ (toNat_pos_of_ne_zero hb)
  · rw [W_div_toNat, W_mod_toNat, Nat.div_add_mod']
  · rw [divLoop_eq hb 0 hfuel, W_div_toNat, Nat.zero_add]

end Sys2Proof.Proofs
end

section
/-! ADD (42_arithmetic.md R181): the shared shape of the instructions with two operands and a result, and ADD as one of them. -/

namespace Sys2Proof.Machine

open Sys2Proof.Claims

theorem popTwo_of_length_lt_two {s : State} (h : s.stack.length < 2) (k : Word → Word → State → Out) :
    popTwo s k = raise .stackUnderflow s := by
  obtain ⟨-, e⟩ | ⟨a, b, rest, hs, -⟩ := popTwo_cases s k
  · exact e
  · simp [hs] at h

theorem pushResult_fits {s : State} (h : stackFits s.params (s.stack.length + 1) = true) (v : Word) :
    pushResult v s = .next ((s.withStack (v :: s.stack)).withPc (s.pc + 1)) :=
  push_fits h (advance 1)

theorem twoOperand_of_exec_eq_binaryOp {i : Instr} {f : Word → Word → Word} (h : ∀ s, exec i s = binaryOp f s) :
    twoOperand i f := by
  refine fun s => ⟨fun a b rest hs room => ?_, fun few => (h s).trans (popTwo_of_length_lt_two few _)⟩
  calc exec i s
      = pushResult (f a b) (s.withStack rest) := (h s).trans (popTwo_eq hs _)
    _ = .next { s with stack := f a b :: rest, pc := s.pc + 1 } := pushResult_fits room (f a b)

theorem exec_add (s : State) : exec .add s = binaryOp auAdd s := rfl

theorem auAdd_eq_W_mod (a b : Word) : auAdd a b = W ((a.toNat + b.toNat) % 2 ^ 256) := by
  rw [← W_toNat_eq_self (auAdd a b), auAdd_toNat, wordModulus]

end Sys2Proof.Machine

namespace Sys2Proof.Proofs

open Sys2Proof.Machine

/-- Settles O39: ADD is the two-operand instruction of the unit's addition, which is the sum modulo 2^256. -/
theorem addInstruction : Obligations.AddInstruction := by
  refine ⟨rfl, ?_⟩
  simp only [← auAdd_eq_W_mod]
  exact twoOperand_of_exec_eq_binaryOp exec_add

end Sys2Proof.Proofs
end

section
/-! The decoder against the encoder (30_encoding.md R90 to R95): the cell of the opcode map each instruction's opcode byte
selects, and that every byte is the opcode of some instruction. -/

namespace Sys2Proof

open Sys2Proof.Claims

/-! ## PUSHn and the others -/

/-- PUSHn, whatever its immediate. -/
abbrev IsPush (i : Instr) : Prop := ∃ p ∈ pushes, ∃ imm, i = p.2 imm

/-- The list of the PUSHn, read at their `n`. -/
theorem isPush_of_eq_getD {i : Instr} (h : i = (pushes.getD (i.immediateBytes - 1) (1, .push1)).2 i.immediate) :
    IsPush i := by
  refine ⟨_, ?_, _, h⟩
  rw [List.getD_eq_getElem?_getD]
  cases hp : pushes[i.immediateBytes - 1]? with
  | none => exact List.mem_cons_self
  | some p => exact List.mem_of_getElem? hp

/-- Instruction by instruction: it is a PUSHn, or it has no immediate and the map holds it as a cell of format OP. -/
theorem isPush_or_op (i : Instr) :
    IsPush i ∨ (opcodeCell i.opcode = .op i ∧ i.immediate = [] ∧ i.immediateBytes = 0) := by
  cases i
  case push1 | push2 | push3 | push4 | push5 | push6 | push7 | push8 | push9 | push10 | push11 | push12 | push13 | push14
      | push15 | push16 | push17 | push18 | push19 | push20 | push21 | push22 | push23 | push24 | push25 | push26 | push27
      | push28 | push29 | push30 | push31 | push32 =>
    exact .inl (isPush_of_eq_getD rfl)
  all_goals exact .inr ⟨rfl, rfl, rfl⟩

section Push

variable {p : Nat × (List Byte → Instr)} (hp : p ∈ pushes) (imm : List Byte)

include hp

theorem push_bounds : p.1 ≠ 0 ∧ p.1 ≤ 32 := by
  fin_cases hp <;> decide

theorem opcodeCell_push : opcodeCell (BitVec.ofNat 8 (0x5f + p.1)) = .push p.1 p.2 := by
  fin_cases hp <;> rfl

theorem opcode_push : (p.2 imm).opcode = BitVec.ofNat 8 (0x5f + p.1) := by
  fin_cases hp <;> rfl

theorem immediate_push : (p.2 imm).immediate = imm := by
  fin_cases hp <;> rfl

theorem immediateBytes_push : (p.2 imm).immediateBytes = p.1 := by
  fin_cases hp <;> rfl

theorem executes_push : (p.2 imm).executes = true := by
  fin_cases hp <;> rfl

theorem encode_push : encode (p.2 imm) = BitVec.ofNat 8 (0x5f + p.1) :: imm := by
  rw [encode, opcode_push hp, immediate_push hp]

end Push

theorem exists_push {n : Nat} (hpos : 1 ≤ n) (hle : n ≤ 32) : ∃ mk, (n, mk) ∈ pushes := by
  have hn : n ∈ pushes.map Prod.fst := (List.mem_range'_1 (s := 1) (n := 32)).mpr ⟨hpos, by omega⟩
  obtain ⟨⟨_, mk⟩, hmem, rfl⟩ := List.mem_map.mp hn
  exact ⟨mk, hmem⟩

/-! ## The cell an opcode selects -/

theorem opcode_decodeInstr : ∀ op : Byte, (decodeInstr op []).1.opcode = op := by decide +kernel

theorem exists_opcode_eq (op : Byte) : ∃ i : Instr, i.opcode = op := ⟨_, opcode_decodeInstr op⟩

theorem decodeInstr_of_op {op : Byte} {i : Instr} (h : opcodeCell op = .op i) (following : List Byte) :
    decodeInstr op following = (i, following) := by
  simp [decodeInstr, h]

theorem decodeInstr_of_push {op : Byte} {n : Nat} {mk : List Byte → Instr} (h : opcodeCell op = .push n mk)
    (following : List Byte) : decodeInstr op following = (mk (following.take n), following.drop n) := by
  simp [decodeInstr, h]

theorem decodeInstr_push {p : Nat × (List Byte → Instr)} (hp : p ∈ pushes) (following : List Byte) :
    decodeInstr (BitVec.ofNat 8 (0x5f + p.1)) following = (p.2 (following.take p.1), following.drop p.1) :=
  decodeInstr_of_push (opcodeCell_push hp) following

/-! ## Decoding and encoding -/

theorem decodeInstr_immediate_append {i : Instr} (h : i.WellFormed) (rest : List Byte) :
    decodeInstr i.opcode (i.immediate ++ rest) = (i, rest) := by
  obtain ⟨p, hp, imm, rfl⟩ | ⟨hcell, himm, -⟩ := isPush_or_op i
  · have hlen : imm.length = p.1 := by rwa [Instr.WellFormed, immediate_push hp, immediateBytes_push hp] at h
    rw [opcode_push hp, immediate_push hp, decodeInstr_push hp, List.take_left' hlen, List.drop_left' hlen]
  · rw [decodeInstr_of_op hcell, himm, List.nil_append]

/-- A PUSH whose immediate is cut off by the end of the code loses no byte either (R99). -/
theorem encode_decodeInstr_append (op : Byte) (following : List Byte) :
    encode (decodeInstr op following).1 ++ (decodeInstr op following).2 = op :: following := by
  obtain ⟨i, rfl⟩ := exists_opcode_eq op
  obtain ⟨p, hp, imm, rfl⟩ | ⟨hcell, himm, -⟩ := isPush_or_op i
  · rw [opcode_push hp, decodeInstr_push hp, encode_push hp, List.cons_append, List.take_append_drop]
  · rw [decodeInstr_of_op hcell, encode, himm, List.singleton_append]

/-- Decoding takes no more immediate bytes than the opcode asks for. -/
theorem decodeInstr_immediate_length_le (op : Byte) (following : List Byte) :
    (decodeInstr op following).1.immediate.length ≤ 32 := by
  obtain ⟨i, rfl⟩ := exists_opcode_eq op
  obtain ⟨p, hp, imm, rfl⟩ | ⟨hcell, himm, -⟩ := isPush_or_op i
  · rw [opcode_push hp, decodeInstr_push hp, immediate_push hp]
    exact (List.length_take_le _ _).trans (push_bounds hp).2
  · simp [decodeInstr_of_op hcell, himm]

end Sys2Proof

namespace Sys2Proof.Proofs

open Sys2Proof.Machine

/-- Settles O1: the map at each of the written-out bytes. -/
theorem writtenOutWordsDecode : Obligations.WrittenOutWordsDecode :=
  ⟨rfl, rfl, rfl, rfl, rfl, rfl, rfl, rfl, rfl, rfl, rfl, rfl, rfl⟩

/-- Settles O2: the opcode selects the instruction's own cell, and a PUSH takes back as many bytes as a well-formed one has. -/
theorem decodeUndoesEncode : Obligations.DecodeUndoesEncode := fun _ rest hwf =>
  congrArg Except.ok (decodeInstr_immediate_append hwf rest)

/-- Settles O3: the empty sequence decodes to nothing; of any other the opcode byte and the immediate are spelled again. -/
theorem encodeUndoesDecode : Obligations.EncodeUndoesDecode := by
  intro bs rest i h
  cases bs with
  | nil => cases h
  | cons op following =>
    have hdecoded : decodeInstr op following = (i, rest) := Except.ok.inj h
    simpa only [hdecoded] using encode_decodeInstr_append op following

end Sys2Proof.Proofs
end

section
/-! The covering of a range before an access (20_memory.md R64, R65) in the terms of the claims, and the checked conversion
(41_alu.md R163). -/

namespace Sys2Proof.Machine

open Sys2Proof.Claims

theorem roundUp_eq_granules (n : Nat) : roundUp n = granules n := rfl

theorem coveredMem_size (s : State) (o n : Nat) : (coveredMem s o n).size = coveredSize s o n := by
  unfold coveredMem coveredSize
  split
  · rw [Memory.grown_size, roundUp_eq_granules]
  · rfl

@[simp] theorem coveredMem_cells (s : State) (o n : Nat) : (coveredMem s o n).cells = s.mem.cells := by
  unfold coveredMem Memory.grown
  split
  · split <;> rfl
  · rfl

theorem coveredMem_eq_covered (s : State) (o n : Nat) : coveredMem s o n = covered s o n := by
  rw [covered, ← coveredMem_size, ← coveredMem_cells s o n]

theorem overfull_iff_not_roomInMemory {s : State} {o n : Nat} : Overfull s o n ↔ ¬ roomInMemory s o n := by
  rw [Overfull, coveredMem_size, Classical.not_imp, Bool.not_eq_true]

theorem not_overfull_of_roomInMemory {s : State} {o n : Nat} (h : roomInMemory s o n) : ¬ Overfull s o n := fun hover =>
  overfull_iff_not_roomInMemory.mp hover h

theorem toNat_of_auToU32_ok {w : Word} {n : Nat} (h : auToU32 w = .ok n) : w.toNat < 2 ^ 32 ∧ w.toNat = n := by
  by_cases hlt : w.toNat < 2 ^ 32
  · rw [auToU32_ok w hlt] at h
    exact ⟨hlt, Except.ok.inj h⟩
  · rw [auToU32_error w hlt] at h
    cases h

theorem toIndex_of_auToU32_ok {w : Word} {n : Nat} (h : auToU32 w = .ok n) (s : State) (k : Nat → Out) :
    toIndex w s k = k n := by
  obtain ⟨hlt, rfl⟩ := toNat_of_auToU32_ok h
  exact toIndex_ok hlt s k

theorem toIndex_of_le {w : Word} (h : 2 ^ 32 ≤ w.toNat) (s : State) (k : Nat → Out) :
    toIndex w s k = raise .conversionOverflow s :=
  toIndex_overflow h.not_gt s k

/-! The range an instruction covers, once its operands have been popped and converted. -/

theorem accessRange_mload {s : State} {offset : Word} {rest : List Word} (hs : s.stack = offset :: rest)
    (ho : offset.toNat < 2 ^ 32) : accessRange .mload s.stack = some (offset.toNat, 32) := by
  rw [hs, accessRange, auToU32_ok offset ho]
  rfl

theorem accessRange_mstore {s : State} {offset value : Word} {rest : List Word} (hs : s.stack = offset :: value :: rest)
    (ho : offset.toNat < 2 ^ 32) : accessRange .mstore s.stack = some (offset.toNat, 32) := by
  rw [hs, accessRange, auToU32_ok offset ho]
  rfl

theorem accessRange_mstore8 {s : State} {offset value : Word} {rest : List Word} (hs : s.stack = offset :: value :: rest)
    (ho : offset.toNat < 2 ^ 32) : accessRange .mstore8 s.stack = some (offset.toNat, 1) := by
  rw [hs, accessRange, auToU32_ok offset ho]
  rfl

theorem accessRange_codecopy {s : State} {dest codeOffset length : Word} {rest : List Word}
    (hs : s.stack = dest :: codeOffset :: length :: rest) (hd : dest.toNat < 2 ^ 32) (hc : codeOffset.toNat < 2 ^ 32)
    (hn : length.toNat < 2 ^ 32) : accessRange .codecopy s.stack = some (dest.toNat, length.toNat) := by
  rw [hs, accessRange, auToU32_ok dest hd, auToU32_ok codeOffset hc, auToU32_ok length hn]
  rfl

/-- The instructions whose operands `popRange` takes. -/
def rangeInstrs : List Instr := [.sha3, .ret, .revert, .log0, .log1, .log2, .log3, .log4]

theorem accessRange_of_mem_rangeInstrs {i : Instr} (hi : i ∈ rangeInstrs) {s : State} {offset size : Word}
    {rest : List Word} (hs : s.stack = offset :: size :: rest) (ho : offset.toNat < 2 ^ 32) (hn : size.toNat < 2 ^ 32) :
    accessRange i s.stack = some (offset.toNat, size.toNat) := by
  have hrange : accessRange i (offset :: size :: rest) = accessRange .sha3 (offset :: size :: rest) := by
    fin_cases hi <;> rfl
  rw [hs, hrange, accessRange, auToU32_ok offset ho, auToU32_ok size hn]
  rfl

end Sys2Proof.Machine
end

section
/-! The operand forms (40_dispatch.md R114): which meaning `exec` gives to which instructions, said once, so that a statement
about every instruction is proved form by form. -/

namespace Sys2Proof.Machine

open Sys2Proof.Claims

/-! ## The unit's errors that no instruction reaches -/

theorem auEq_zero_iff (b : Word) : auEq b (W 0) = true ↔ b.toNat = 0 := auEq_iff_toNat_eq b (W 0)

/-- Three operands and a result that may depend on the run's parameters. -/
def ternaryOp (f : Params → Word → Word → Word → Word) (s : State) : Out :=
  popThree s fun a b m s => pushResult (f s.params a b m) s

theorem exec_div : exec .div = binaryOp fun a b => if b.toNat = 0 then W 0 else W (a.toNat / b.toNat) := by
  refine funext fun s => congrArg (popTwo s) (funext₃ fun a b s => ?_)
  by_cases hb : b.toNat = 0 <;> simp [auEq_zero_iff, auDiv, orRaise, hb]

theorem exec_mod : exec .mod = binaryOp fun a b => if b.toNat = 0 then W 0 else W (a.toNat % b.toNat) := by
  refine funext fun s => congrArg (popTwo s) (funext₃ fun a b s => ?_)
  by_cases hb : b.toNat = 0 <;> simp [auEq_zero_iff, auMod, orRaise, hb]

theorem exec_addmod : exec .addmod = ternaryOp fun p a b m =>
    if m.toNat = 0 then W 0
    else if p.modarithWide then W ((a.toNat + b.toNat) % m.toNat)
    else W ((a.toNat + b.toNat) % 2 ^ 256 % m.toNat) := by
  refine funext fun s => congrArg (popThree s) (funext fun a => funext₃ fun b m s => ?_)
  by_cases hm : m.toNat = 0
  · simp [auEq_zero_iff, hm]
  · cases hp : s.params.modarithWide <;> simp [auEq_zero_iff, auMod, orRaise, hm, hp, auAdd_toNat, wordModulus]

theorem exec_mulmod : exec .mulmod = ternaryOp fun p a b m =>
    if m.toNat = 0 then W 0
    else if p.modarithWide then W (a.toNat * b.toNat % m.toNat)
    else W (a.toNat * b.toNat % 2 ^ 256 % m.toNat) := by
  refine funext fun s => congrArg (popThree s) (funext fun a => funext₃ fun b m s => ?_)
  by_cases hm : m.toNat = 0
  · simp [auEq_zero_iff, hm]
  · cases hp : s.params.modarithWide <;> simp [auEq_zero_iff, auMod, orRaise, hm, hp, auMul_toNat, wordModulus]

theorem orRaise_auWord {bs : List Byte} (h : bs.length ≤ 32) (s : State) (k : Word → Out) :
    orRaise (auWord bs) s k = k (W (natOfBytes bs)) := by
  rw [auWord_ok bs h, orRaise]

theorem exec_calldataload (s : State) : exec .calldataload s =
    pop s fun offset s => toIndex offset s fun i =>
      pushResult (W (natOfBytes (bytesFrom s.ctx.input i 32))) s := by
  unfold exec execCalldataload
  simp [orRaise_auWord]

/-! ## Jumps -/

/-- JUMP once its destination is popped, and a taken JUMPI (47_control.md R270, R271). -/
def takeJump (dest : Word) (s : State) : Out :=
  toIndex dest s fun d => if validDest s d then jumpTo d s else raise .invalidJumpDestination s

theorem exec_jump (s : State) : exec .jump s = pop s takeJump := rfl

theorem exec_jumpi (s : State) : exec .jumpi s =
    popTwo s fun dest cond s => if auNe cond (W 0) then takeJump dest s else advance 1 s := rfl

/-! ## Classes of instructions -/

/-- Neither a log nor a halt. -/
abbrev Ordinary (i : Instr) : Prop := i ∉ logInstrs.map Prod.snd ∧ i ∉ [.stop, .ret, .revert, .suicide]

/-- Executes and takes its operands from the stack. -/
abbrev TakesEntries (i : Instr) : Prop := i.executes = true ∧ i.immediateBytes = 0 ∧ i ∉ operandFreeInstrs

theorem ordinary_push {p : Nat × (List Byte → Instr)} (hp : p ∈ pushes) (imm : List Byte) : Ordinary (p.2 imm) := by
  have hpos : (p.2 imm).immediateBytes ≠ 0 := (immediateBytes_push hp imm).trans_ne (push_bounds hp).1
  have hlog : ∀ i ∈ logInstrs.map Prod.snd, i.immediateBytes = 0 := by decide
  have hhalt : ∀ i ∈ [Instr.stop, .ret, .revert, .suicide], i.immediateBytes = 0 := by decide
  exact ⟨fun hi => hpos (hlog _ hi), fun hi => hpos (hhalt _ hi)⟩

theorem exec_push {p : Nat × (List Byte → Instr)} (hp : p ∈ pushes) (imm : List Byte) :
    exec (p.2 imm) = pushImmediate p.1 imm := by
  fin_cases hp <;> rfl

/-! ## The forms -/

/-- The registers whose Words and bytes opcodes push (45_context.md) are the same. -/
structure SameOperandRegisters (c d : Context) : Prop where
  sender : c.sender = d.sender
  recipient : c.recipient = d.recipient
  value : c.value = d.value
  input : c.input = d.input

/-- The state with another context. -/
def State.mapCtx (g : Context → Context) (s : State) : State := { s with ctx := g s.ctx }

/-- A value read from the state that depends on the context through its operand registers alone. -/
def ReadsOperandRegisters (f : State → Word) : Prop :=
  ∀ (g : Context → Context) (s : State), SameOperandRegisters (g s.ctx) s.ctx → f (s.mapCtx g) = f s

/-- The meaning of an instruction by its operand form: one constructor for the instructions that share one, and one for each of
the others. -/
inductive Form : Instr → (State → Out) → Prop
  | unsupported {i} (h : i.executes = false) : Form i unsupported
  | unary {i} (ht : TakesEntries i) (ho : Ordinary i) (f : Word → Word) : Form i (unaryOp f)
  | binary {i} (ht : TakesEntries i) (ho : Ordinary i) (f : Word → Word → Word) : Form i (binaryOp f)
  | ternary {i} (ht : TakesEntries i) (ho : Ordinary i) (f : Params → Word → Word → Word → Word) : Form i (ternaryOp f)
  | read {i} (ho : Ordinary i) {f : State → Word} (hf : ReadsOperandRegisters f) : Form i fun s => pushResult (f s) s
  | push {p} (hp : p ∈ pushes) (imm : List Byte) : Form (p.2 imm) (pushImmediate p.1 imm)
  | dup {i} (ht : TakesEntries i) (ho : Ordinary i) (n : Nat) : Form i (dupEntry n)
  | swap {i} (ht : TakesEntries i) (ho : Ordinary i) (n : Nat) : Form i (swapEntry n)
  | log {n i} (h : (n, i) ∈ logInstrs) : Form i (logRecord n)
  | pop : Form .pop execPop
  | calldataload : Form .calldataload (exec .calldataload)
  | mload : Form .mload execMload
  | mstore : Form .mstore execMstore
  | mstore8 : Form .mstore8 execMstore8
  | sha3 : Form .sha3 execSha3
  | codecopy : Form .codecopy execCodecopy
  | sload : Form .sload execSload
  | sstore : Form .sstore execSstore
  | jump : Form .jump execJump
  | jumpi : Form .jumpi execJumpi
  | jumpdest : Form .jumpdest execJumpdest
  | stop : Form .stop execStop
  | ret : Form .ret execRet
  | revert : Form .revert execRevert
  | suicide : Form .suicide execSuicide

theorem exec_form_of_no_immediate {i : Instr} (h : i.immediateBytes = 0) : Form i (exec i) := by
  cases i <;> cases h
  case not | iszero => exact .unary (by decide) (by decide) _
  case add | mul | sub | exp | lt | gt | eq | and | or | xor => exact .binary (by decide) (by decide) _
  case div => exact exec_div ▸ .binary (by decide) (by decide) _
  case mod => exact exec_mod ▸ .binary (by decide) (by decide) _
  case addmod => exact exec_addmod ▸ .ternary (by decide) (by decide) _
  case mulmod => exact exec_mulmod ▸ .ternary (by decide) (by decide) _
  case address => exact .read (by decide) fun _ _ h => h.recipient
  case origin | caller => exact .read (by decide) fun _ _ h => h.sender
  case callvalue => exact .read (by decide) fun _ _ h => h.value
  case calldatasize => exact .read (by decide) fun _ _ h => congrArg (fun bs : List Byte => W bs.length) h.input
  case pc | msize => exact .read (by decide) fun _ _ _ => rfl
  case dup1 | dup2 | dup3 | dup4 | dup5 | dup6 | dup7 | dup8 | dup9 | dup10 | dup11 | dup12 | dup13 | dup14 | dup15 | dup16 =>
    exact .dup (by decide) (by decide) _
  case swap1 | swap2 | swap3 | swap4 | swap5 | swap6 | swap7 | swap8 | swap9 | swap10 | swap11 | swap12 | swap13 | swap14
      | swap15 | swap16 =>
    exact .swap (by decide) (by decide) _
  case log0 => exact .log (n := 0) (by decide)
  case log1 => exact .log (n := 1) (by decide)
  case log2 => exact .log (n := 2) (by decide)
  case log3 => exact .log (n := 3) (by decide)
  case log4 => exact .log (n := 4) (by decide)
  case pop => exact .pop
  case calldataload => exact .calldataload
  case mload => exact .mload
  case mstore => exact .mstore
  case mstore8 => exact .mstore8
  case sha3 => exact .sha3
  case codecopy => exact .codecopy
  case sload => exact .sload
  case sstore => exact .sstore
  case jump => exact .jump
  case jumpi => exact .jumpi
  case jumpdest => exact .jumpdest
  case stop => exact .stop
  case ret => exact .ret
  case revert => exact .revert
  case suicide => exact .suicide
  all_goals exact .unsupported rfl

theorem exec_form (i : Instr) : Form i (exec i) := by
  obtain ⟨p, hp, imm, rfl⟩ | ⟨-, -, hzero⟩ := isPush_or_op i
  · rw [exec_push hp]
    exact .push hp imm
  · exact exec_form_of_no_immediate hzero

end Sys2Proof.Machine
end

section
/-! Whatever holds of an operation's fault and of its continuation holds of the operation: the `_cases` lemmas of
Sys2Proof/Laws/Ops.lean as rules that keep which fault it is. -/

namespace Sys2Proof.Machine

variable {E : Out → Prop} {s : State}

theorem pop_elim {k : Word → State → Out} (underflow : E (raise .stackUnderflow s))
    (go : ∀ v rest, s.stack = v :: rest → E (k v (s.withStack rest))) : E (pop s k) := by
  obtain ⟨-, e⟩ | ⟨v, rest, hs, e⟩ := pop_cases s k
  · exact e ▸ underflow
  · exact e ▸ go v rest hs

theorem popTwo_elim {k : Word → Word → State → Out} (underflow : E (raise .stackUnderflow s))
    (go : ∀ a b rest, s.stack = a :: b :: rest → E (k a b (s.withStack rest))) : E (popTwo s k) := by
  obtain ⟨-, e⟩ | ⟨a, b, rest, hs, e⟩ := popTwo_cases s k
  · exact e ▸ underflow
  · exact e ▸ go a b rest hs

theorem popThree_elim {k : Word → Word → Word → State → Out} (underflow : E (raise .stackUnderflow s))
    (go : ∀ a b c rest, s.stack = a :: b :: c :: rest → E (k a b c (s.withStack rest))) : E (popThree s k) := by
  obtain ⟨-, e⟩ | ⟨a, b, c, rest, hs, e⟩ := popThree_cases s k
  · exact e ▸ underflow
  · exact e ▸ go a b c rest hs

theorem peek_elim {i : Nat} {k : Word → Out} (underflow : E (raise .stackUnderflow s))
    (go : ∀ v, s.stack[i]? = some v → E (k v)) : E (peek i s k) := by
  obtain ⟨-, e⟩ | ⟨v, hv, e⟩ := peek_cases i s k
  · exact e ▸ underflow
  · exact e ▸ go v hv

theorem swapTop_elim {i : Nat} {k : State → Out} (underflow : E (raise .stackUnderflow s))
    (go : ∀ v t, E (k (s.withStack ((s.stack.set 0 v).set i t)))) : E (swapTop i s k) := by
  obtain ⟨-, e⟩ | ⟨v, t, -, -, e⟩ := swapTop_cases i s k
  · exact e ▸ underflow
  · exact e ▸ go v t

theorem popMany_elim {n : Nat} {k : List Word → State → Out} (underflow : E (raise .stackUnderflow s))
    (go : E (k (s.stack.take n) (s.withStack (s.stack.drop n)))) : E (popMany n s k) := by
  obtain ⟨-, e⟩ | ⟨-, e⟩ := popMany_cases n s k
  · exact e ▸ underflow
  · exact e ▸ go

theorem toIndex_elim {w : Word} {k : Nat → Out} (overflow : E (raise .conversionOverflow s))
    (go : w.toNat < 2 ^ 32 → E (k w.toNat)) : E (toIndex w s k) := by
  obtain ⟨hw, e⟩ | ⟨-, e⟩ := toIndex_cases w s k
  · exact e ▸ go hw
  · exact e ▸ overflow

theorem pushResult_elim {v : Word}
    (full : stackFits s.params (s.stack.length + 1) = false → E (.fault .stackCapacityExceeded))
    (go : stackFits s.params (s.stack.length + 1) = true → E (.next ((s.withStack (v :: s.stack)).withPc (s.pc + 1)))) :
    E (pushResult v s) := by
  obtain ⟨hs, e⟩ | ⟨hs, e⟩ := pushResult_cases v s
  · exact e ▸ go hs
  · exact e ▸ full hs

theorem pushImmediate_elim {n : Nat} {imm : List Byte} (cut : E (raise .noMoreInstructions s))
    (long : 32 < imm.length → E (raise .constructionOverflow s))
    (full : stackFits s.params (s.stack.length + 1) = false → E (.fault .stackCapacityExceeded))
    (go : s.pc + n < s.code.length → stackFits s.params (s.stack.length + 1) = true →
      E (.next ((s.withStack (W (natOfBytes imm) :: s.stack)).withPc (s.pc + (1 + n))))) : E (pushImmediate n imm s) := by
  obtain ⟨-, e⟩ | ⟨-, hl, e⟩ | ⟨hp, -, ⟨hs, e⟩ | ⟨hs, e⟩⟩ := pushImmediate_cases n imm s
  · exact e ▸ cut
  · exact e ▸ long hl
  · exact e ▸ go hp hs
  · exact e ▸ full hs

theorem cover_memRead_elim {o n : Nat} {k : List Byte → State → Out}
    (full : Overfull s o n → E (.fault .memCapacityExceeded))
    (go : ¬ Overfull s o n → E (k (s.mem.read o n) (s.withMem (coveredMem s o n)))) :
    E (cover o n s fun s => memRead o n s fun bs => k bs s) := by
  obtain ⟨hf, e⟩ | ⟨hf, e⟩ := cover_memRead_cases o n s k
  · exact e ▸ go hf
  · exact e ▸ full hf

theorem cover_memWrite_elim {o n : Nat} {bs : List Byte} (hn : n = bs.length) {k : State → Out}
    (full : Overfull s o n → E (.fault .memCapacityExceeded))
    (go : ¬ Overfull s o n → E (k (s.withMem ((coveredMem s o n).write o bs)))) :
    E (cover o n s fun s => memWrite o bs s k) := by
  obtain ⟨hf, e⟩ | ⟨hf, e⟩ := cover_memWrite_cases o bs n hn s k
  · exact e ▸ go hf
  · exact e ▸ full hf

theorem popRange_elim {k : List Byte → State → Out} (underflow : E (raise .stackUnderflow s))
    (overflow : E (raise .conversionOverflow s))
    (full : ∀ offset size rest, s.stack = offset :: size :: rest → offset.toNat < 2 ^ 32 → size.toNat < 2 ^ 32 →
      Overfull s offset.toNat size.toNat → E (.fault .memCapacityExceeded))
    (go : ∀ o n offset size rest, s.stack = offset :: size :: rest → ¬ Overfull s o n →
      E (k (s.mem.read o n) ((s.withStack rest).withMem (coveredMem s o n)))) : E (popRange s k) := by
  obtain ⟨-, e⟩ | ⟨offset, size, rest, hs, ⟨-, e⟩ | ⟨ho, hn, ⟨hf, e⟩ | ⟨hf, e⟩⟩⟩ := popRange_cases s k
  · exact e ▸ underflow
  · exact e ▸ overflow
  · exact e ▸ go _ _ offset size rest hs hf
  · exact e ▸ full offset size rest hs ho hn hf

theorem loadKey_elim {key : Word} {k : Word → State → Out} (present : ∀ v, E (k v s))
    (found : ∀ r, s.storage.find key = none → E (k r ((afterRequest s key).withStorage (s.storage.insert key r))))
    (failure : E (raise .dataSourceFailure (afterRequest s key)))
    (noAnswer : s.storage.find key = none → Config.fetchStorage s.freeIndex (fetchRequest s key) = .noAnswer →
      E (.fault .dataSourceNeverAnswers)) : E (loadKey key s k) := by
  obtain ⟨v, -, e⟩ | ⟨hn, ⟨r, -, e⟩ | ⟨-, e⟩ | ⟨ha, e⟩⟩ := loadKey_cases key s k
  · exact e ▸ present v
  · exact e ▸ found r hn
  · exact e ▸ failure
  · exact e ▸ noAnswer hn ha

end Sys2Proof.Machine
end

section
/-! What an instruction can do, said once: fault, be stuck, or complete (40_dispatch.md R110 to R119). Every statement about all
instructions is a case analysis of these. -/

namespace Sys2Proof.Machine

open Sys2Proof.Claims

/-- The error kinds an instruction can raise (60_exceptions.md R441 to R448). -/
inductive Raises : Instr → ErrorKind → Prop
  | unsupported {i} (h : i.executes = false) : Raises i .unsupportedInstruction
  | underflow {i} (h : TakesEntries i) : Raises i .stackUnderflow
  | overflow {i} (h : i ∈ convertingInstrs) : Raises i .conversionOverflow
  | cutOff {i} (h : IsPush i) : Raises i .noMoreInstructions
  | tooLong {i} (h : IsPush i) (hlong : 32 < i.immediate.length) : Raises i .constructionOverflow
  | invalidDestination {i} (h : i = .jump ∨ i = .jumpi) : Raises i .invalidJumpDestination
  | fetchFailed {i} (h : i = .sload) : Raises i .dataSourceFailure

/-- Why an instruction is stuck (R119; 93_implementation_defined.md I3). -/
inductive Stuck (i : Instr) (s : State) : Fault → Prop
  | stackFull (h : stackFits s.params (s.stack.length + 1) = false) : Stuck i s .stackCapacityExceeded
  | memFull {o n} (hrange : accessRange i s.stack = some (o, n)) (h : Overfull s o n) : Stuck i s .memCapacityExceeded
  | unanswered {key rest} (hi : i = .sload) (hs : s.stack = key :: rest) (hkey : s.storage.find key = none)
      (h : Config.fetchStorage s.freeIndex (fetchRequest s key) = .noAnswer) : Stuck i s .dataSourceNeverAnswers

/-- A stack that fits the capacity if the one before does. -/
abbrev KeepsStackFit (s : State) (stack : List Word) : Prop :=
  stackFits s.params s.stack.length = true → stackFits s.params stack.length = true

/-- The states in which an instruction completes: by the components it writes beside the stack and `pc`. -/
inductive Completes (i : Instr) (s : State) : State → Prop
  | onStack {stack pc} (hi : Ordinary i) (hfit : KeepsStackFit s stack)
      (hpc : s.pc < s.code.length → pc ≤ s.code.length) : Completes i s ((s.withStack stack).withPc pc)
  | expanded {stack o n} (hi : i ∈ [.mload, .sha3]) (hfit : KeepsStackFit s stack) (hroom : ¬ Overfull s o n) :
      Completes i s (((s.withMem (coveredMem s o n)).withStack stack).withPc (s.pc + 1))
  | written {stack o n bs} (hi : i ∈ [.mstore, .mstore8, .codecopy]) (hfit : KeepsStackFit s stack)
      (hn : n = bs.length) (hroom : ¬ Overfull s o n) :
      Completes i s (((s.withMem ((coveredMem s o n).write o bs)).withStack stack).withPc (s.pc + 1))
  | logged {stack o n r} (hi : i ∈ logInstrs.map Prod.snd) (hfit : KeepsStackFit s stack) (hroom : ¬ Overfull s o n)
      (hr : r.topics.length ≤ maxTopics) :
      Completes i s ((((s.withMem (coveredMem s o n)).withStack stack).withLogs (s.logs ++ [r])).withPc (s.pc + 1))
  | fetched {stack key v} (hi : i = .sload) (hfit : KeepsStackFit s stack) (hkey : s.storage.find key = none) :
      Completes i s
        ((((afterRequest s key).withStorage (s.storage.insert key v)).withStack stack).withPc (s.pc + 1))
  | stored {stack key v} (hi : i = .sstore) (hfit : KeepsStackFit s stack) :
      Completes i s (((s.withStorage (s.storage.insert key v)).withStack stack).withPc (s.pc + 1))
  | stopped (hi : i = .stop) : Completes i s ((s.withReturndata []).withRun (.halted .stop))
  | returned {stack o n d} (hi : i = .ret) (hfit : KeepsStackFit s stack) (hroom : ¬ Overfull s o n) :
      Completes i s
        ((((s.withMem (coveredMem s o n)).withStack stack).withReturndata d).withRun (.halted (.ret d)))
  | reverted {stack o n d} (hi : i = .revert) (hfit : KeepsStackFit s stack) (hroom : ¬ Overfull s o n) :
      Completes i s
        (((((s.withMem (coveredMem s o n)).withStack stack).withReturndata d).withReverted true).withRun
          (.halted (.revert d)))
  | suicided {stack} (hi : i = .suicide) (hfit : KeepsStackFit s stack) :
      Completes i s (((s.withStack stack).withSelfdestructed true).withRun (.halted .suicide))

/-- The run parameters (10_state.md section 1) are the same. -/
structure SameRun (t s : State) : Prop where
  code : t.code = s.code
  ctx : t.ctx = s.ctx
  params : t.params = s.params

/-- What running an instruction can come to. -/
inductive Effect (i : Instr) (s : State) : Out → Prop
  | raised {k s'} (h : Raises i k) (hrun : SameRun s' s) : Effect i s (raise k s')
  | stuck {f} (h : Stuck i s f) : Effect i s (.fault f)
  | completed {t} (h : Completes i s t) : Effect i s (.next t)

/-! ## The shared operations -/

variable {i : Instr} {s : State}

theorem keepsStackFit_of_length_le {stack : List Word} (h : stack.length ≤ s.stack.length) : KeepsStackFit s stack :=
  fun hs => stackFits_of_le hs h

theorem stackFits_false_of_le {p : Params} {d e : Nat} (h : stackFits p d = false) (hle : d ≤ e) :
    stackFits p e = false :=
  Bool.eq_false_iff.mpr fun he => Bool.eq_false_iff.mp h (stackFits_of_le he hle)

theorem effect_pop (h : TakesEntries i) {k : Word → State → Out}
    (go : ∀ v rest, s.stack = v :: rest → rest.length ≤ s.stack.length → Effect i s (k v (s.withStack rest))) :
    Effect i s (pop s k) :=
  pop_elim (.raised (.underflow h) ⟨rfl, rfl, rfl⟩) fun v rest hs => go v rest hs (by simp [hs])

theorem effect_popTwo (h : TakesEntries i) {k : Word → Word → State → Out}
    (go : ∀ a b rest, s.stack = a :: b :: rest → rest.length ≤ s.stack.length → Effect i s (k a b (s.withStack rest))) :
    Effect i s (popTwo s k) :=
  popTwo_elim (.raised (.underflow h) ⟨rfl, rfl, rfl⟩) fun a b rest hs =>
    go a b rest hs (by simp only [hs, List.length_cons]; omega)

theorem effect_popThree (h : TakesEntries i) {k : Word → Word → Word → State → Out}
    (go : ∀ a b c rest, s.stack = a :: b :: c :: rest → rest.length ≤ s.stack.length →
      Effect i s (k a b c (s.withStack rest))) : Effect i s (popThree s k) :=
  popThree_elim (.raised (.underflow h) ⟨rfl, rfl, rfl⟩) fun a b c rest hs =>
    go a b c rest hs (by simp only [hs, List.length_cons]; omega)

theorem effect_toIndex (h : i ∈ convertingInstrs) {w : Word} {stack : List Word} {k : Nat → Out}
    (go : w.toNat < 2 ^ 32 → Effect i s (k w.toNat)) : Effect i s (toIndex w (s.withStack stack) k) :=
  toIndex_elim (.raised (.overflow h) ⟨rfl, rfl, rfl⟩) go

theorem effect_pushResult (ho : Ordinary i) {rest : List Word} (hlen : rest.length ≤ s.stack.length) (v : Word) :
    Effect i s (pushResult v (s.withStack rest)) := by
  refine pushResult_elim (fun full => ?_) fun fits => ?_
  · exact .stuck (.stackFull (stackFits_false_of_le full (Nat.succ_le_succ hlen)))
  · exact .completed (.onStack ho (fun _ => fits) id)

/-- A result pushed after a covered range has been read. -/
theorem effect_pushResult_expanded (hi : i ∈ [.mload, .sha3]) {rest : List Word} (hlen : rest.length ≤ s.stack.length)
    {o n : Nat} (hroom : ¬ Overfull s o n) (v : Word) :
    Effect i s (pushResult v ((s.withStack rest).withMem (coveredMem s o n))) := by
  refine pushResult_elim (fun full => ?_) fun fits => ?_
  · exact .stuck (.stackFull (stackFits_false_of_le full (Nat.succ_le_succ hlen)))
  · exact .completed (.expanded hi (fun _ => fits) hroom)

theorem effect_cover_memWrite (hi : i ∈ [.mstore, .mstore8, .codecopy]) {rest : List Word}
    (hlen : rest.length ≤ s.stack.length) {o n : Nat} {bs : List Byte} (hn : n = bs.length)
    (hrange : accessRange i s.stack = some (o, n)) :
    Effect i s (cover o n (s.withStack rest) fun t => memWrite o bs t (advance 1)) :=
  cover_memWrite_elim hn (fun full => .stuck (.memFull hrange full)) fun hroom =>
    .completed (.written hi (keepsStackFit_of_length_le hlen) hn hroom)

theorem rangeInstrs_convert : ∀ i ∈ rangeInstrs, TakesEntries i ∧ i ∈ convertingInstrs := by decide

theorem effect_popRange (hi : i ∈ rangeInstrs) {k : List Byte → State → Out}
    (go : ∀ d o n rest, rest.length ≤ s.stack.length → ¬ Overfull s o n →
      Effect i s (k d ((s.withStack rest).withMem (coveredMem s o n)))) : Effect i s (popRange s k) := by
  obtain ⟨ht, hc⟩ := rangeInstrs_convert i hi
  refine popRange_elim (.raised (.underflow ht) ⟨rfl, rfl, rfl⟩) (.raised (.overflow hc) ⟨rfl, rfl, rfl⟩)
    (fun offset size rest hs ho hn full => ?_) fun o n offset size rest hs hroom => ?_
  · exact .stuck (.memFull (accessRange_of_mem_rangeInstrs hi hs ho hn) full)
  · exact go _ o n rest (by simp only [hs, List.length_cons]; omega) hroom

theorem logInstrs_range : ∀ p ∈ logInstrs, p.1 ≤ maxTopics ∧ p.2 ∈ rangeInstrs := by decide

theorem effect_logRecord {n : Nat} (h : (n, i) ∈ logInstrs) : Effect i s (logRecord n s) := by
  obtain ⟨hn, hi⟩ := logInstrs_range _ h
  obtain ⟨ht, -⟩ := rangeInstrs_convert i hi
  refine effect_popRange hi fun d o len rest hlen hroom => ?_
  refine popMany_elim (.raised (.underflow ht) ⟨rfl, rfl, rfl⟩) ?_
  refine .completed (.logged (List.mem_map_of_mem h) (keepsStackFit_of_length_le ?_) hroom ?_)
  · exact (List.drop_sublist _ _).length_le.trans hlen
  · exact (List.length_take_le _ _).trans hn

theorem lt_length_of_validDest {d : Nat} (h : validDest s d = true) : d < s.code.length := by
  simp only [validDest, Bool.and_eq_true, decide_eq_true_eq] at h
  exact h.1

theorem effect_takeJump (hi : i = .jump ∨ i = .jumpi) {rest : List Word} (hlen : rest.length ≤ s.stack.length)
    (dest : Word) : Effect i s (takeJump dest (s.withStack rest)) := by
  have hc : i ∈ convertingInstrs ∧ Ordinary i := by obtain rfl | rfl := hi <;> decide
  refine effect_toIndex hc.1 fun _ => ?_
  split
  next hd => exact .completed (.onStack hc.2 (keepsStackFit_of_length_le hlen) fun _ => (lt_length_of_validDest hd).le)
  next => exact .raised (.invalidDestination hi) ⟨rfl, rfl, rfl⟩

/-! ## Every instruction -/

theorem effect_of_form {m : State → Out} (form : Form i m) (s : State) : Effect i s (m s) := by
  cases form with
  | unsupported h => exact .raised (.unsupported h) ⟨rfl, rfl, rfl⟩
  | unary ht ho f => exact effect_pop ht fun a rest _ hlen => effect_pushResult ho hlen _
  | binary ht ho f => exact effect_popTwo ht fun a b rest _ hlen => effect_pushResult ho hlen _
  | ternary ht ho f => exact effect_popThree ht fun a b c rest _ hlen => effect_pushResult ho hlen _
  | read ho _ => exact effect_pushResult (rest := s.stack) ho le_rfl _
  | @push p hp imm =>
    have hpush : IsPush (p.2 imm) := ⟨p, hp, imm, rfl⟩
    refine pushImmediate_elim (.raised (.cutOff hpush) ⟨rfl, rfl, rfl⟩) (fun long => ?_)
      (fun full => .stuck (.stackFull full)) fun hpc fits => ?_
    · exact .raised (.tooLong hpush (by rwa [immediate_push hp])) ⟨rfl, rfl, rfl⟩
    · exact .completed (.onStack (ordinary_push hp imm) (fun _ => fits) fun _ => by omega)
  | dup ht ho n =>
    exact peek_elim (.raised (.underflow ht) ⟨rfl, rfl, rfl⟩) fun v _ => effect_pushResult (rest := s.stack) ho le_rfl v
  | swap ht ho n =>
    refine swapTop_elim (.raised (.underflow ht) ⟨rfl, rfl, rfl⟩) fun v t => ?_
    exact .completed (.onStack ho (keepsStackFit_of_length_le (by simp)) id)
  | log h => exact effect_logRecord h
  | pop =>
    refine effect_pop (by decide) fun a rest _ hlen => ?_
    exact .completed (.onStack (by decide) (keepsStackFit_of_length_le hlen) id)
  | calldataload =>
    rw [exec_calldataload]
    refine effect_pop (by decide) fun offset rest _ hlen => effect_toIndex (by decide) fun _ => ?_
    exact effect_pushResult (by decide) hlen _
  | mload =>
    refine effect_pop (by decide) fun offset rest hs hlen => effect_toIndex (by decide) fun ho => ?_
    refine cover_memRead_elim (fun full => .stuck (.memFull (accessRange_mload hs ho) full)) fun hroom => ?_
    rw [orRaise_auWord (by simp)]
    exact effect_pushResult_expanded (by decide) hlen hroom _
  | mstore =>
    refine effect_popTwo (by decide) fun offset value rest hs hlen => effect_toIndex (by decide) fun ho => ?_
    exact effect_cover_memWrite (by decide) hlen (auBytes32_length value).symm (accessRange_mstore hs ho)
  | mstore8 =>
    refine effect_popTwo (by decide) fun offset value rest hs hlen => effect_toIndex (by decide) fun ho => ?_
    exact effect_cover_memWrite (by decide) hlen rfl (accessRange_mstore8 hs ho)
  | sha3 => exact effect_popRange (by decide) fun d o n rest hlen hroom => effect_pushResult_expanded (by decide) hlen hroom _
  | codecopy =>
    refine effect_popThree (by decide) fun dest codeOffset length rest hs hlen => effect_toIndex (by decide) fun hd =>
      effect_toIndex (by decide) fun hc => effect_toIndex (by decide) fun hn => ?_
    exact effect_cover_memWrite (by decide) hlen (bytesFrom_length _ _ _).symm (accessRange_codecopy hs hd hc hn)
  | sload =>
    refine effect_pop (by decide) fun key rest hs hlen => loadKey_elim (fun v => effect_pushResult (by decide) hlen v)
      (fun r hkey => pushResult_elim (fun full => ?_) fun fits => ?_) (.raised (.fetchFailed rfl) ⟨rfl, rfl, rfl⟩)
      fun hkey hno => .stuck (.unanswered rfl hs hkey hno)
    · exact .stuck (.stackFull (stackFits_false_of_le full (Nat.succ_le_succ hlen)))
    · exact .completed (.fetched rfl (fun _ => fits) hkey)
  | sstore =>
    refine effect_popTwo (by decide) fun key value rest _ hlen => ?_
    exact .completed (.stored rfl (keepsStackFit_of_length_le hlen))
  | jump => exact effect_pop (by decide) fun dest rest _ hlen => effect_takeJump (.inl rfl) hlen dest
  | jumpi =>
    refine effect_popTwo (by decide) fun dest cond rest _ hlen => ?_
    split
    next => exact effect_takeJump (.inr rfl) hlen dest
    next => exact .completed (.onStack (by decide) (keepsStackFit_of_length_le hlen) id)
  | jumpdest => exact .completed (.onStack (stack := s.stack) (by decide) id id)
  | stop => exact .completed (.stopped rfl)
  | ret =>
    refine effect_popRange (by decide) fun d o n rest hlen hroom => ?_
    exact .completed (.returned rfl (keepsStackFit_of_length_le hlen) hroom)
  | revert =>
    refine effect_popRange (by decide) fun d o n rest hlen hroom => ?_
    exact .completed (.reverted rfl (keepsStackFit_of_length_le hlen) hroom)
  | suicide =>
    refine effect_pop (by decide) fun a rest _ hlen => ?_
    exact .completed (.suicided rfl (keepsStackFit_of_length_le hlen))

theorem exec_effect (i : Instr) (s : State) : Effect i s (exec i s) := effect_of_form (exec_form i) s

/-! ## By outcome -/

theorem exec_ne_refused (i : Instr) (s : State) (r : Refusal) : exec i s ≠ .refused r := fun e => by
  have h := e ▸ exec_effect i s
  cases h

theorem stuck_of_exec_fault {f : Fault} (e : exec i s = .fault f) : Stuck i s f := by
  have h := e ▸ exec_effect i s
  cases h with
  | stuck h => exact h

theorem exec_next_cases {t : State} (e : exec i s = .next t) :
    (∃ k s', Raises i k ∧ SameRun s' s ∧ t = faultState k s') ∨ Completes i s t := by
  have h := exec_effect i s
  generalize exec i s = out at e h
  cases h with
  | raised hk hrun => exact .inl ⟨_, _, hk, hrun, (Host.Outcome.next.inj e).symm⟩
  | stuck _ => cases e
  | completed hc => exact .inr (Host.Outcome.next.inj e ▸ hc)

theorem completes_of_intact {t : State} (e : exec i s = .next t) (h : t.intact) : Completes i s t := by
  obtain ⟨k, s', -, -, rfl⟩ | hc := exec_next_cases e
  · cases h
  · exact hc

theorem Completes.sameRun {t : State} (h : Completes i s t) : SameRun t s := by
  cases h <;> exact ⟨rfl, rfl, rfl⟩

/-! ## The step -/

theorem step_of_ended (h : s.ended) : step s = .next s := by
  cases hrun : s.run with
  | running => exact absurd hrun h
  | halted _ | faulted _ => simp [step, hrun]

theorem step_of_decode {following : List Byte} (hrun : s.run = .running)
    (h : decode (s.code.drop s.pc) = .ok (i, following)) : step s = exec i s := by
  rw [step_of_running hrun, fetchInstr, h]

/-- What a step does: nothing where the run has ended, the fault of a fetch past the code, or the instruction at `pc`. -/
theorem step_cases (s : State) :
    (s.ended ∧ step s = .next s) ∨
    (s.run = .running ∧ s.code.length ≤ s.pc ∧ step s = raise .noMoreInstructions s) ∨
    (s.run = .running ∧ s.pc < s.code.length ∧
      ∃ op following, s.code.drop s.pc = op :: following ∧ step s = exec (decodeInstr op following).1 s) := by
  by_cases hrun : s.run = .running
  · by_cases hpc : s.pc < s.code.length
    · have hdrop := List.drop_eq_getElem_cons hpc
      exact .inr (.inr ⟨hrun, hpc, _, _, hdrop, step_of_drop hrun hdrop⟩)
    · have hend := Nat.le_of_not_lt hpc
      exact .inr (.inl ⟨hrun, hend, step_of_length_le hrun hend⟩)
  · exact .inl ⟨hrun, step_of_ended hrun⟩

/-- The next states of a step. -/
theorem step_next_cases {t : State} (e : step s = .next t) :
    (s.ended ∧ t = s) ∨
    (s.run = .running ∧ ∃ k s', SameRun s' s ∧ t = faultState k s' ∧
      (k = .noMoreInstructions ∨ ∃ op following, Raises (decodeInstr op following).1 k)) ∨
    (s.run = .running ∧ s.pc < s.code.length ∧ ∃ i, Completes i s t) := by
  obtain ⟨hend, e'⟩ | ⟨hrun, -, e'⟩ | ⟨hrun, hpc, op, following, -, e'⟩ := step_cases s
  · exact .inl ⟨hend, (Host.Outcome.next.inj (e'.symm.trans e)).symm⟩
  · exact .inr (.inl ⟨hrun, _, s, ⟨rfl, rfl, rfl⟩, (Host.Outcome.next.inj (e'.symm.trans e)).symm, .inl rfl⟩)
  · obtain ⟨k, s', hk, hsame, rfl⟩ | hc := exec_next_cases (e'.symm.trans e)
    · exact .inr (.inl ⟨hrun, k, s', hsame, rfl, .inr ⟨op, following, hk⟩⟩)
    · exact .inr (.inr ⟨hrun, hpc, _, hc⟩)

end Sys2Proof.Machine
end

section
/-! The invariant (10_state.md R40): what each update of a component asks for to keep it, that a fault keeps it, and that every
completion does. -/

namespace Sys2Proof.Machine

open Sys2Proof.Claims

variable {s t : State}

/-! ## One rule per component written -/

theorem State.Inv.withPc (h : s.Inv) {pc : Nat} (hpc : pc ≤ s.code.length) : (s.withPc pc).Inv :=
  { h with pcInCode := fun _ => hpc }

theorem State.Inv.withStack (h : s.Inv) {stack : List Word} (hlive : s.intact) (hfit : KeepsStackFit s stack) :
    (s.withStack stack).Inv :=
  { h with stackWithinCapacity := fun _ => hfit (h.stackWithinCapacity hlive) }

theorem State.Inv.withStorage (h : s.Inv) {m : Storage} (hm : m.wf) : (s.withStorage m).Inv :=
  { h with storageCanonical := hm }

theorem State.Inv.withLogs_append (h : s.Inv) {r : LogRecord} (hlive : s.intact) (hr : r.topics.length ≤ maxTopics) :
    (s.withLogs (s.logs ++ [r])).Inv :=
  { h with
    topicsBounded := fun _ => List.forall_mem_append.mpr ⟨h.topicsBounded hlive, List.forall_mem_singleton.mpr hr⟩ }

theorem State.Inv.afterRequest (h : s.Inv) (key : Word) : (afterRequest s key).Inv := { h with }

theorem State.Inv.expanded (h : s.Inv) (hlive : s.intact) {o n : Nat} (hroom : ¬ Overfull s o n) :
    (s.withMem (coveredMem s o n)).Inv :=
  { h with
    memCanonical := coveredMem_wf s o n h.memCanonical
    memGranular := fun _ => coveredMem_granular s o n (h.memGranular hlive)
    memWithinCapacity := fun _ => memFits_of_not_overfull hroom (h.memWithinCapacity hlive) }

/-- The bytes written lie within the length: none are written where the range is empty, and otherwise it is covered. -/
theorem coveredMem_write_wf {o n : Nat} {bs : List Byte} (hn : n = bs.length) (h : s.mem.wf) :
    ((coveredMem s o n).write o bs).wf := by
  subst hn
  cases bs with
  | nil => exact coveredMem_wf s o 0 h
  | cons b bs => exact Memory.write_wf _ _ _ (coveredMem_wf s o _ h) (coveredMem_covers s o _ (by simp))

theorem State.Inv.written (h : s.Inv) (hlive : s.intact) {o n : Nat} {bs : List Byte} (hn : n = bs.length)
    (hroom : ¬ Overfull s o n) : (s.withMem ((coveredMem s o n).write o bs)).Inv :=
  { h with
    memCanonical := coveredMem_write_wf hn h.memCanonical
    memGranular := fun _ => by
      simpa using coveredMem_granular s o n (h.memGranular hlive)
    memWithinCapacity := fun _ => by
      simpa using memFits_of_not_overfull hroom (h.memWithinCapacity hlive) }

theorem intact_of_running (h : s.run = .running) : s.intact := by
  simp [State.intact, State.endedInError, h]

/-- The components of the halt, written in a running state: whatever run state, flags and data agree. -/
theorem State.Inv.halted (h : s.Inv) (hrun : s.run = .running) {run : Run} {reverted selfdestructed : Bool} {data : List Byte}
    (hagrees : State.haltAgrees { s with
      run := run, reverted := reverted, selfdestructed := selfdestructed, returndata := data }) :
    State.Inv { s with run := run, reverted := reverted, selfdestructed := selfdestructed, returndata := data } :=
  have hlive := intact_of_running hrun
  { h with
    pcInCode := fun _ => h.pcInCode hlive
    memGranular := fun _ => h.memGranular hlive
    topicsBounded := fun _ => h.topicsBounded hlive
    haltState := hagrees
    stackWithinCapacity := fun _ => h.stackWithinCapacity hlive
    memWithinCapacity := fun _ => h.memWithinCapacity hlive }

/-! ## Faults and completions -/

theorem State.Inv.faultState {s' : State} (h : s.Inv) (k : ErrorKind) (hrun : SameRun s' s) : (faultState k s').Inv where
  memCanonical := Memory.ofBytes_wf _
  storageCanonical := Storage.ofList_wf _
  codeLength := by simpa [hrun.code] using h.codeLength
  inputLength := by simpa [hrun.ctx] using h.inputLength
  pcInCode := nofun
  memGranular := nofun
  topicsBounded := nofun
  haltState := trivial
  stackWithinCapacity := nofun
  memWithinCapacity := nofun

theorem State.Inv.completes {i : Instr} (h : s.Inv) (hrun : s.run = .running) (hpc : s.pc < s.code.length)
    (hc : Completes i s t) : t.Inv := by
  have hlive := intact_of_running hrun
  obtain ⟨hrev, hself, hret⟩ : s.reverted = false ∧ s.selfdestructed = false ∧ s.returndata = [] := by
    simpa [State.haltAgrees, hrun] using h.haltState
  cases hc with
  | onStack _ hfit hpc' => exact (h.withStack hlive hfit).withPc (hpc' hpc)
  | expanded _ hfit hroom => exact ((h.expanded hlive hroom).withStack hlive hfit).withPc hpc
  | written _ hfit hn hroom => exact ((h.written hlive hn hroom).withStack hlive hfit).withPc hpc
  | logged _ hfit hroom hr => exact (((h.expanded hlive hroom).withStack hlive hfit).withLogs_append hlive hr).withPc hpc
  | fetched _ hfit _ =>
    exact (((h.afterRequest _).withStorage (s.storage.insert_wf _ _ h.storageCanonical)).withStack hlive hfit).withPc hpc
  | stored _ hfit =>
    exact ((h.withStorage (s.storage.insert_wf _ _ h.storageCanonical)).withStack hlive hfit).withPc hpc
  | stopped _ => exact h.halted hrun ⟨hrev, hself, rfl⟩
  | returned _ hfit hroom => exact ((h.expanded hlive hroom).withStack hlive hfit).halted hrun ⟨hrev, hself, rfl⟩
  | reverted _ hfit hroom => exact ((h.expanded hlive hroom).withStack hlive hfit).halted hrun ⟨rfl, hself, rfl⟩
  | suicided _ hfit => exact (h.withStack hlive hfit).halted hrun ⟨hrev, rfl, hret⟩

end Sys2Proof.Machine

namespace Sys2Proof.Proofs

open Sys2Proof.Machine

/-- Settles O14: each clause at the empty components of the reset state. -/
theorem resetMeetsTheInvariant : Obligations.ResetMeetsTheInvariant where
  memCanonical := Memory.reset_wf
  storageCanonical := List.Pairwise.nil
  codeLength := by decide
  inputLength := by decide
  pcInCode _ := le_rfl
  memGranular _ := rfl
  topicsBounded _ := nofun
  haltState := ⟨rfl, rfl, rfl⟩
  stackWithinCapacity _ := rfl
  memWithinCapacity _ := rfl

/-- Settles O15: a fault leaves canonical free values, and a completion writes its components by the rules above. -/
theorem everyStepKeepsTheInvariant : Obligations.EveryStepKeepsTheInvariant := by
  intro s t h e
  obtain ⟨-, rfl⟩ | ⟨-, k, s', hsame, rfl, -⟩ | ⟨hrun, hpc, i, hc⟩ := step_next_cases e
  · exact h
  · exact h.faultState k hsame
  · exact h.completes hrun hpc hc

end Sys2Proof.Proofs
end

section
/-! Safety: which faults a step can end in, where it is stuck, and which components each instruction writes. -/

namespace Sys2Proof.Machine

open Sys2Proof.Claims

variable {i : Instr} {s t : State} {k : ErrorKind}

/-! ## Faults -/

theorem Raises.unsupported_iff (h : Raises i k) : k = .unsupportedInstruction ↔ i.executes = false := by
  have executing (hx : i.executes = true) {k : ErrorKind} (hk : k ≠ .unsupportedInstruction) :
      k = .unsupportedInstruction ↔ i.executes = false := by simp [hk, hx]
  cases h with
  | unsupported h => simp [h]
  | underflow h => exact executing h.1 nofun
  | overflow h => exact executing ((by decide : ∀ i ∈ convertingInstrs, i.executes = true) i h) nofun
  | cutOff h | tooLong h _ =>
    obtain ⟨p, hp, imm, rfl⟩ := h
    exact executing (executes_push hp imm) nofun
  | invalidDestination h => obtain rfl | rfl := h <;> decide
  | fetchFailed h => subst h; decide

theorem ne_push_of_takesEntries (h : TakesEntries i) : ∀ p ∈ pushes, ∀ imm, i ≠ p.2 imm := by
  rintro p hp imm rfl
  exact (push_bounds hp).1 ((immediateBytes_push hp imm).symm.trans h.2.1)

/-! ## Run state -/

theorem Completes.run_cases (hrun : s.run = .running) (h : Completes i s t) :
    (t.run = .running ∧ i ∉ [.stop, .ret, .revert, .suicide]) ∨
    (t.run = .halted .stop ∧ i = .stop) ∨
    (∃ d, t.run = .halted (.ret d) ∧ i = .ret ∧ t.returndata = d) ∨
    (∃ d, t.run = .halted (.revert d) ∧ i = .revert ∧ t.returndata = d) ∨
    (t.run = .halted .suicide ∧ i = .suicide) := by
  cases h with
  | onStack hi _ _ => exact .inl ⟨hrun, hi.2⟩
  | expanded hi _ _ => exact .inl ⟨hrun, by fin_cases hi <;> decide⟩
  | written hi _ _ _ => exact .inl ⟨hrun, by fin_cases hi <;> decide⟩
  | logged hi _ _ _ => exact .inl ⟨hrun, by fin_cases hi <;> decide⟩
  | fetched hi _ _ => exact .inl ⟨hrun, by subst hi; decide⟩
  | stored hi _ => exact .inl ⟨hrun, by subst hi; decide⟩
  | stopped hi => exact .inr (.inl ⟨rfl, hi⟩)
  | returned hi _ _ => exact .inr (.inr (.inl ⟨_, rfl, hi, rfl⟩))
  | reverted hi _ _ => exact .inr (.inr (.inr (.inl ⟨_, rfl, hi, rfl⟩)))
  | suicided hi _ => exact .inr (.inr (.inr (.inr ⟨rfl, hi⟩)))

theorem Completes.run_ne_faulted (hrun : s.run = .running) (h : Completes i s t) (k : ErrorKind) : t.run ≠ .faulted k := by
  obtain ⟨e, -⟩ | ⟨e, -⟩ | ⟨d, e, -⟩ | ⟨d, e, -⟩ | ⟨e, -⟩ := h.run_cases hrun <;> simp [e]

/-! ## Memory, storage, logs and flags -/

theorem Completes.mem_size_le (h : Completes i s t) : s.mem.size ≤ t.mem.size := by
  cases h with
  | expanded | logged | returned | reverted => exact coveredMem_size_ge ..
  | written => simpa using coveredMem_size_ge ..
  | onStack | fetched | stored | stopped | suicided => exact le_rfl

theorem Completes.mem_granular (h : Completes i s t) (hs : s.mem.size % memGranule = 0) : t.mem.size % memGranule = 0 := by
  cases h with
  | expanded | logged | returned | reverted => exact coveredMem_granular _ _ _ hs
  | written => simpa using coveredMem_granular _ _ _ hs
  | onStack | fetched | stored | stopped | suicided => exact hs

theorem Completes.mem_eq (h : Completes i s t) (hi : i ∉ memoryInstrs) : t.mem = s.mem := by
  have absurd_of {l : List Instr} (hl : ∀ j ∈ l, j ∈ memoryInstrs) (h : i ∈ l) : t.mem = s.mem := absurd (hl i h) hi
  cases h with
  | expanded h _ _ => exact absurd_of (by decide) h
  | written h _ _ _ => exact absurd_of (by decide) h
  | logged h _ _ _ => exact absurd_of (by decide) h
  | returned h _ _ => exact absurd_of (l := [.ret]) (by decide) (by simp [h])
  | reverted h _ _ => exact absurd_of (l := [.revert]) (by decide) (by simp [h])
  | onStack | fetched | stored | stopped | suicided => rfl

theorem Completes.mem_byte_eq (h : Completes i s t) (hi : i ∉ [.mstore, .mstore8, .codecopy]) (a : Nat) :
    t.mem.byte a = s.mem.byte a := by
  cases h with
  | expanded | logged | returned | reverted => exact coveredMem_byte ..
  | written h _ _ _ => exact absurd h hi
  | onStack | fetched | stored | stopped | suicided => rfl

theorem Completes.storage_eq (h : Completes i s t) (hload : i ≠ .sload) (hstore : i ≠ .sstore) : t.storage = s.storage := by
  cases h with
  | fetched hi _ _ => exact absurd hi hload
  | stored hi _ => exact absurd hi hstore
  | onStack | expanded | written | logged | stopped | returned | reverted | suicided => rfl

theorem Storage.find_insert_ne_none (m : Storage) (key value : Word) {other : Word} (h : m.find other ≠ none) :
    (m.insert key value).find other ≠ none := by
  by_cases hk : other = key
  · simp [hk]
  · rwa [Storage.find_insert_other _ _ _ _ hk]

theorem Completes.key_stays_present (h : Completes i s t) {key : Word} (hkey : s.storage.find key ≠ none) :
    t.storage.find key ≠ none := by
  cases h with
  | fetched | stored => exact s.storage.find_insert_ne_none _ _ hkey
  | onStack | expanded | written | logged | stopped | returned | reverted | suicided => exact hkey

theorem Completes.sload_keeps_value (h : Completes .sload s t) {key v : Word} (hv : s.storage.find key = some v) :
    t.storage.find key = some v := by
  cases h with
  | fetched _ _ hkey =>
    refine (Storage.find_insert_other _ _ _ _ ?_).trans hv
    rintro rfl
    simp [hkey] at hv
  | stored hi _ => cases hi
  | onStack | expanded | written | logged | stopped | returned | reverted | suicided => exact hv

theorem Completes.logs_append (h : Completes i s t) (hi : i ∈ logInstrs.map Prod.snd) :
    ∃ r, t.logs = s.logs ++ [r] ∧ r.topics.length ≤ maxTopics := by
  have absurd_of {l : List Instr} (hl : ∀ j ∈ l, j ∉ logInstrs.map Prod.snd) (h : i ∈ l) :
      ∃ r, t.logs = s.logs ++ [r] ∧ r.topics.length ≤ maxTopics := absurd hi (hl i h)
  cases h with
  | logged _ _ _ hr => exact ⟨_, rfl, hr⟩
  | onStack h _ _ => exact absurd hi h.1
  | expanded h _ _ => exact absurd_of (by decide) h
  | written h _ _ _ => exact absurd_of (by decide) h
  | fetched h _ _ => exact absurd_of (l := [.sload]) (by decide) (by simp [h])
  | stored h _ => exact absurd_of (l := [.sstore]) (by decide) (by simp [h])
  | stopped h => exact absurd_of (l := [.stop]) (by decide) (by simp [h])
  | returned h _ _ => exact absurd_of (l := [.ret]) (by decide) (by simp [h])
  | reverted h _ _ => exact absurd_of (l := [.revert]) (by decide) (by simp [h])
  | suicided h _ => exact absurd_of (l := [.suicide]) (by decide) (by simp [h])

theorem Completes.logs_eq (h : Completes i s t) (hi : i ∉ logInstrs.map Prod.snd) : t.logs = s.logs := by
  cases h with
  | logged h _ _ _ => exact absurd h hi
  | onStack | expanded | written | fetched | stored | stopped | returned | reverted | suicided => rfl

theorem Completes.reverted_eq (h : Completes i s t) (hi : i ≠ .revert) : t.reverted = s.reverted := by
  cases h with
  | reverted h _ _ => exact absurd h hi
  | onStack | expanded | written | logged | fetched | stored | stopped | returned | suicided => rfl

theorem Completes.selfdestructed_eq (h : Completes i s t) (hi : i ≠ .suicide) : t.selfdestructed = s.selfdestructed := by
  cases h with
  | suicided h _ => exact absurd h hi
  | onStack | expanded | written | logged | fetched | stored | stopped | returned | reverted => rfl

theorem Completes.returndata_eq (h : Completes i s t) (hi : i ∉ [.stop, .ret, .revert]) : t.returndata = s.returndata := by
  cases h with
  | stopped h | returned h _ _ | reverted h _ _ => simp [h] at hi
  | onStack | expanded | written | logged | fetched | stored | suicided => rfl

end Sys2Proof.Machine

namespace Sys2Proof.Proofs

open Sys2Proof.Machine Sys2Proof.Claims

/-- Settles O4: fetch decodes the code at `pc` and hands the instruction to `exec`. -/
theorem stepRunsTheDecodedInstruction : Obligations.StepRunsTheDecodedInstruction := fun _ _ _ hrun h =>
  step_of_decode hrun h

/-- Settles O6. -/
theorem terminalStatesTakeNoStep : Obligations.TerminalStatesTakeNoStep := fun _ h => step_of_ended h

/-- Settles O8: none of the 148 executes, and the fault is the whole arm of each that does not. -/
theorem unsupportedInstructionsRaise : Obligations.UnsupportedInstructionsRaise := by
  have hexec : ∀ i ∈ namedUnsupported ++ unassignedLow ++ unassignedHigh, i.executes = false := by decide +kernel
  exact fun i hi s => exec_of_not_executes (hexec i hi) s

/-- Settles O9: the fault state is its own witness; having faulted, it takes no step. -/
theorem faultRecordsItsKindAndIsTerminal : Obligations.FaultRecordsItsKindAndIsTerminal := fun k s =>
  ⟨faultState k s, rfl, rfl, rfl, rfl, rfl, step_of_ended nofun⟩

/-- Settles O10: no effect of an instruction is a refusal. -/
theorem noStepIsRefused : Obligations.NoStepIsRefused := by
  intro s r e
  obtain ⟨-, e'⟩ | ⟨-, -, e'⟩ | ⟨-, -, op, following, -, e'⟩ := step_cases s
  · cases e'.symm.trans e
  · cases e'.symm.trans e
  · exact exec_ne_refused _ s r (e'.symm.trans e)

/-- Settles O11: a fetch is never stuck, and each way an instruction is stuck is one of the three. -/
theorem stuckOnlyBeyondCapacityOrUnanswered : Obligations.StuckOnlyBeyondCapacityOrUnanswered := by
  intro s f e
  obtain ⟨-, e'⟩ | ⟨-, -, e'⟩ | ⟨hrun, -, op, following, hdrop, e'⟩ := step_cases s
  · cases e'.symm.trans e
  · cases e'.symm.trans e
  refine ⟨hrun, (decodeInstr op following).1, (decodeInstr op following).2, by rw [hdrop, decode], ?_⟩
  cases stuck_of_exec_fault (e'.symm.trans e) with
  | stackFull h => exact .inl ⟨rfl, Bool.eq_false_iff.mp h⟩
  | memFull hrange h => exact .inr (.inl ⟨rfl, _, _, hrange, overfull_iff_not_roomInMemory.mp h⟩)
  | unanswered hi hs hkey h => exact .inr (.inr ⟨rfl, hi, _, _, hs, hkey, h⟩)

/-- Settles O13: the kinds an instruction raises are its own, and a completion is no fault. -/
theorem eachFaultKindHasItsInstructions : Obligations.EachFaultKindHasItsInstructions := by
  refine ⟨fun s t hrun e => ?_, fun i s t k hrun himm e hk => ?_⟩
  · obtain ⟨hend, -⟩ | ⟨-, k, s', -, rfl, hk⟩ | ⟨-, -, i, hc⟩ := step_next_cases e
    · exact absurd hrun hend
    · simp only [faultState_run, ne_eq, Run.faulted.injEq]
      obtain rfl | ⟨op, following, hk⟩ := hk
      · exact ⟨nofun, nofun⟩
      · refine ⟨?_, ?_⟩ <;> rintro rfl <;> cases hk
        case tooLong _ hlong => exact hlong.not_ge (decodeInstr_immediate_length_le op following)
    · exact ⟨hc.run_ne_faulted hrun _, hc.run_ne_faulted hrun _⟩
  · obtain ⟨k', s', hraises, -, rfl⟩ | hc := exec_next_cases e
    · obtain rfl := Run.faulted.inj hk
      refine ⟨hraises.unsupported_iff, ?_, ?_, ?_, ?_, ?_⟩ <;> rintro rfl <;> cases hraises
      case cutOff h => exact h
      case invalidDestination h => exact h
      case fetchFailed h => exact h
      case overflow h => exact h
      case underflow h => exact ⟨h.2.2, ne_push_of_takesEntries h⟩
    · exact absurd hk (hc.run_ne_faulted hrun k)

/-- Settles O17: neither a fault nor a completion writes them. -/
theorem noStepWritesTheRunParameters : Obligations.NoStepWritesTheRunParameters := by
  intro s t e
  obtain ⟨-, rfl⟩ | ⟨-, k, s', hsame, rfl, -⟩ | ⟨-, -, i, hc⟩ := step_next_cases e
  · exact ⟨rfl, rfl, rfl⟩
  · exact ⟨hsame.code, hsame.ctx, hsame.params⟩
  · exact ⟨hc.sameRun.code, hc.sameRun.ctx, hc.sameRun.params⟩

/-- Settles O18: completion by completion, memory is expanded, written within what is expanded, or left alone. -/
theorem memoryChangesOnlyByItsInstructions : Obligations.MemoryChangesOnlyByItsInstructions := by
  intro i s t e hlive
  have hc := completes_of_intact e hlive
  exact ⟨hc.mem_size_le, hc.mem_granular, hc.mem_eq, hc.mem_byte_eq⟩

/-- Settles O19: an insertion keeps every present key, and SLOAD inserts an absent one. -/
theorem presentKeysStayPresent : Obligations.PresentKeysStayPresent := by
  intro i s t e hlive
  have hc := completes_of_intact e hlive
  refine ⟨fun key => hc.key_stays_present, hc.storage_eq, ?_⟩
  rintro rfl key v
  exact hc.sload_keeps_value

/-- Settles O20. -/
theorem logSinkIsAppendOnly : Obligations.LogSinkIsAppendOnly := by
  intro i s t e hlive
  have hc := completes_of_intact e hlive
  exact ⟨hc.logs_append, hc.logs_eq⟩

/-- Settles O21. -/
theorem haltFlagsHaveOneWriter : Obligations.HaltFlagsHaveOneWriter := by
  intro i s t e hlive
  have hc := completes_of_intact e hlive
  exact ⟨hc.reverted_eq, hc.selfdestructed_eq, hc.returndata_eq⟩

/-- Settles O22: a fault, or the run state of the completion. -/
theorem runStateTransitions : Obligations.RunStateTransitions := by
  intro i s t hrun e
  obtain ⟨k, s', -, -, rfl⟩ | hc := exec_next_cases e
  · exact .inr (.inr (.inr (.inr (.inr ⟨k, rfl⟩))))
  · obtain h | h | h | h | h := hc.run_cases hrun
    · exact .inl h
    · exact .inr (.inl h)
    · exact .inr (.inr (.inl h))
    · exact .inr (.inr (.inr (.inl h)))
    · exact .inr (.inr (.inr (.inr (.inl h))))

end Sys2Proof.Proofs
end

section
/-! Noninterference (10_state.md R33): every operation commutes with a change of the context registers that no opcode reads,
and SLOAD's fetch request with a change that leaves `ctx.height` too. -/

namespace Sys2Proof.Machine

open Sys2Proof.Claims

/-! ## The operations -/

section Operations

variable {g : Context → Context} {s : State}

theorem raise_mapCtx (k : ErrorKind) : raise k (s.mapCtx g) = mapNext (State.mapCtx g) (raise k s) := rfl

theorem ite_mapCtx {c : Prop} [Decidable c] {a a' b b' : Out} (ha : a' = mapNext (State.mapCtx g) a)
    (hb : b' = mapNext (State.mapCtx g) b) : (if c then a' else b') = mapNext (State.mapCtx g) (if c then a else b) := by
  split
  · exact ha
  · exact hb

theorem advance_mapCtx (n : Nat) : advance n (s.mapCtx g) = mapNext (State.mapCtx g) (advance n s) := rfl

theorem pop_mapCtx {k k' : Word → State → Out}
    (hk : ∀ v t, k' v (t.mapCtx g) = mapNext (State.mapCtx g) (k v t)) :
    pop (s.mapCtx g) k' = mapNext (State.mapCtx g) (pop s k) := by
  obtain ⟨hs, e⟩ | ⟨v, rest, hs, e⟩ := pop_cases s k
  · rw [e, pop_nil (s := s.mapCtx g) hs, raise_mapCtx]
  · rw [e, pop_cons (s := s.mapCtx g) hs, ← hk]
    rfl

theorem popTwo_mapCtx {k k' : Word → Word → State → Out}
    (hk : ∀ a b t, k' a b (t.mapCtx g) = mapNext (State.mapCtx g) (k a b t)) :
    popTwo (s.mapCtx g) k' = mapNext (State.mapCtx g) (popTwo s k) :=
  pop_mapCtx fun a _ => pop_mapCtx fun b t => hk a b t

theorem popThree_mapCtx {k k' : Word → Word → Word → State → Out}
    (hk : ∀ a b c t, k' a b c (t.mapCtx g) = mapNext (State.mapCtx g) (k a b c t)) :
    popThree (s.mapCtx g) k' = mapNext (State.mapCtx g) (popThree s k) :=
  pop_mapCtx fun a _ => pop_mapCtx fun b _ => pop_mapCtx fun c t => hk a b c t

theorem popMany_mapCtx {n : Nat} {k k' : List Word → State → Out}
    (hk : ∀ vs t, k' vs (t.mapCtx g) = mapNext (State.mapCtx g) (k vs t)) :
    popMany n (s.mapCtx g) k' = mapNext (State.mapCtx g) (popMany n s k) := by
  induction n generalizing s k k' with
  | zero => exact hk [] s
  | succ n ih => exact pop_mapCtx fun v t => ih fun vs t => hk (v :: vs) t

theorem push_mapCtx {v : Word} {k k' : State → Out} (hk : ∀ t, k' (t.mapCtx g) = mapNext (State.mapCtx g) (k t)) :
    push v (s.mapCtx g) k' = mapNext (State.mapCtx g) (push v s k) :=
  ite_mapCtx (hk (s.withStack (v :: s.stack))) rfl

theorem pushResult_mapCtx (v : Word) : pushResult v (s.mapCtx g) = mapNext (State.mapCtx g) (pushResult v s) :=
  push_mapCtx fun _ => advance_mapCtx 1

theorem peek_mapCtx {i : Nat} {k k' : Word → Out} (hk : ∀ v, k' v = mapNext (State.mapCtx g) (k v)) :
    peek i (s.mapCtx g) k' = mapNext (State.mapCtx g) (peek i s k) := by
  obtain ⟨hs, e⟩ | ⟨v, hs, e⟩ := peek_cases i s k
  · rw [e, peek_of_length_le (s := s.mapCtx g) hs, raise_mapCtx]
  · rw [e, peek_of_getElem? (s := s.mapCtx g) hs, hk]

theorem setEntry_mapCtx {i : Nat} {v : Word} {k k' : State → Out}
    (hk : ∀ t, k' (t.mapCtx g) = mapNext (State.mapCtx g) (k t)) :
    setEntry i v (s.mapCtx g) k' = mapNext (State.mapCtx g) (setEntry i v s k) :=
  ite_mapCtx (hk (s.withStack (s.stack.set i v))) rfl

theorem swapTop_mapCtx {i : Nat} {k k' : State → Out} (hk : ∀ t, k' (t.mapCtx g) = mapNext (State.mapCtx g) (k t)) :
    swapTop i (s.mapCtx g) k' = mapNext (State.mapCtx g) (swapTop i s k) :=
  peek_mapCtx fun _ => peek_mapCtx fun _ => setEntry_mapCtx fun _ => setEntry_mapCtx hk

theorem orRaise_mapCtx {α : Type} {r : Except ErrorKind α} {k k' : α → Out}
    (hk : ∀ v, k' v = mapNext (State.mapCtx g) (k v)) :
    orRaise r (s.mapCtx g) k' = mapNext (State.mapCtx g) (orRaise r s k) := by
  cases r with
  | ok v => exact hk v
  | error e => rfl

theorem toIndex_mapCtx {w : Word} {k k' : Nat → Out} (hk : ∀ n, k' n = mapNext (State.mapCtx g) (k n)) :
    toIndex w (s.mapCtx g) k' = mapNext (State.mapCtx g) (toIndex w s k) :=
  orRaise_mapCtx hk

theorem expand_mapCtx {n : Nat} {k k' : State → Out} (hk : ∀ t, k' (t.mapCtx g) = mapNext (State.mapCtx g) (k t)) :
    expand n (s.mapCtx g) k' = mapNext (State.mapCtx g) (expand n s k) :=
  ite_mapCtx (ite_mapCtx (hk (s.withMem (s.mem.grown n))) rfl) (hk _)

theorem cover_mapCtx {o n : Nat} {k k' : State → Out} (hk : ∀ t, k' (t.mapCtx g) = mapNext (State.mapCtx g) (k t)) :
    cover o n (s.mapCtx g) k' = mapNext (State.mapCtx g) (cover o n s k) :=
  ite_mapCtx (expand_mapCtx hk) (hk _)

theorem memRead_mapCtx {o n : Nat} {k k' : List Byte → Out} (hk : ∀ bs, k' bs = mapNext (State.mapCtx g) (k bs)) :
    memRead o n (s.mapCtx g) k' = mapNext (State.mapCtx g) (memRead o n s k) :=
  ite_mapCtx (hk _) (ite_mapCtx (hk _) rfl)

theorem memWrite_mapCtx {o : Nat} {bs : List Byte} {k k' : State → Out}
    (hk : ∀ t, k' (t.mapCtx g) = mapNext (State.mapCtx g) (k t)) :
    memWrite o bs (s.mapCtx g) k' = mapNext (State.mapCtx g) (memWrite o bs s k) :=
  ite_mapCtx (hk _) (ite_mapCtx (hk (s.withMem (s.mem.write o bs))) rfl)

theorem popRange_mapCtx {k k' : List Byte → State → Out}
    (hk : ∀ bs t, k' bs (t.mapCtx g) = mapNext (State.mapCtx g) (k bs t)) :
    popRange (s.mapCtx g) k' = mapNext (State.mapCtx g) (popRange s k) :=
  popTwo_mapCtx fun _ _ _ => toIndex_mapCtx fun _ => toIndex_mapCtx fun _ => cover_mapCtx fun t =>
    memRead_mapCtx fun bs => hk bs t

theorem pushImmediate_mapCtx {n : Nat} {imm : List Byte} :
    pushImmediate n imm (s.mapCtx g) = mapNext (State.mapCtx g) (pushImmediate n imm s) :=
  ite_mapCtx rfl (orRaise_mapCtx fun _ => push_mapCtx fun _ => advance_mapCtx _)

theorem loadKey_mapCtx {key : Word} {k k' : Word → State → Out}
    (hrequest : ∀ t key, fetchRequest (State.mapCtx g t) key = fetchRequest t key)
    (hk : ∀ v t, k' v (t.mapCtx g) = mapNext (State.mapCtx g) (k v t)) :
    loadKey key (s.mapCtx g) k' = mapNext (State.mapCtx g) (loadKey key s k) := by
  have hafter : afterRequest (s.mapCtx g) key = (afterRequest s key).mapCtx g := by
    simp only [afterRequest, hrequest]
    rfl
  obtain ⟨v, hv, e⟩ | ⟨hn, hanswer⟩ := loadKey_cases key s k
  · rw [e, loadKey_present (s := s.mapCtx g) hv, hk]
  · have e' : loadKey key (s.mapCtx g) k' =
        onAnswer (Config.fetchStorage s.freeIndex (fetchRequest s key)) key ((afterRequest s key).mapCtx g) k' := by
      rw [← hafter, ← hrequest s]
      simp only [loadKey, show (s.mapCtx g).storage.find key = none from hn]
      rfl
    obtain ⟨r, ha, e⟩ | ⟨ha, e⟩ | ⟨ha, e⟩ := hanswer <;> rw [e', e, ha]
    · exact hk r ((afterRequest s key).withStorage (s.storage.insert key r))
    · rfl
    · rfl

end Operations

/-! ## Every instruction -/

theorem takeJump_mapCtx {g : Context → Context} {s : State} (dest : Word) :
    takeJump dest (s.mapCtx g) = mapNext (State.mapCtx g) (takeJump dest s) :=
  toIndex_mapCtx fun _ => ite_mapCtx rfl rfl

theorem exec_mapCtx {g : Context → Context} (hoperands : ∀ c, SameOperandRegisters (g c) c) {i : Instr}
    (hheight : i = .sload → ∀ c, (g c).height = c.height) (s : State) :
    exec i (s.mapCtx g) = mapNext (State.mapCtx g) (exec i s) := by
  have form := exec_form i
  generalize exec i = m at form
  cases form with
  | unsupported _ => rfl
  | unary _ _ f => exact pop_mapCtx fun _ _ => pushResult_mapCtx _
  | binary _ _ f => exact popTwo_mapCtx fun _ _ _ => pushResult_mapCtx _
  | ternary _ _ f => exact popThree_mapCtx fun _ _ _ _ => pushResult_mapCtx _
  | read _ hf =>
    exact (congrArg (pushResult · (s.mapCtx g)) (hf g s (hoperands s.ctx))).trans (pushResult_mapCtx _)
  | push _ _ => exact pushImmediate_mapCtx
  | dup _ _ n => exact peek_mapCtx fun _ => pushResult_mapCtx _
  | swap _ _ n => exact swapTop_mapCtx fun _ => advance_mapCtx 1
  | log _ => exact popRange_mapCtx fun _ _ => popMany_mapCtx fun _ _ => rfl
  | pop => exact pop_mapCtx fun _ _ => advance_mapCtx 1
  | calldataload =>
    rw [exec_calldataload, exec_calldataload]
    refine pop_mapCtx fun offset t => toIndex_mapCtx fun n => ?_
    rw [show (t.mapCtx g).ctx.input = t.ctx.input from (hoperands t.ctx).input]
    exact pushResult_mapCtx _
  | mload =>
    exact pop_mapCtx fun _ _ => toIndex_mapCtx fun _ => cover_mapCtx fun _ => memRead_mapCtx fun _ =>
      orRaise_mapCtx fun _ => pushResult_mapCtx _
  | mstore =>
    exact popTwo_mapCtx fun _ _ _ => toIndex_mapCtx fun _ => cover_mapCtx fun _ => memWrite_mapCtx fun _ => advance_mapCtx 1
  | mstore8 =>
    exact popTwo_mapCtx fun _ _ _ => toIndex_mapCtx fun _ => cover_mapCtx fun _ => memWrite_mapCtx fun _ => advance_mapCtx 1
  | sha3 => exact popRange_mapCtx fun _ _ => pushResult_mapCtx _
  | codecopy =>
    exact popThree_mapCtx fun _ _ _ _ => toIndex_mapCtx fun _ => toIndex_mapCtx fun _ => toIndex_mapCtx fun _ =>
      cover_mapCtx fun _ => memWrite_mapCtx fun _ => advance_mapCtx 1
  | sload =>
    have hrequest (t : State) (key : Word) : fetchRequest (t.mapCtx g) key = fetchRequest t key := by
      have hr : (t.mapCtx g).ctx.recipient = t.ctx.recipient := (hoperands t.ctx).recipient
      have hh : (t.mapCtx g).ctx.height = t.ctx.height := hheight rfl t.ctx
      simp only [fetchRequest, hr, hh]
    exact pop_mapCtx fun _ _ => loadKey_mapCtx hrequest fun _ _ => pushResult_mapCtx _
  | sstore => exact popTwo_mapCtx fun _ _ _ => rfl
  | jump => exact pop_mapCtx fun dest _ => takeJump_mapCtx dest
  | jumpi =>
    exact popTwo_mapCtx fun dest _ _ => ite_mapCtx (takeJump_mapCtx dest) rfl
  | jumpdest => rfl
  | stop => rfl
  | ret => exact popRange_mapCtx fun _ _ => rfl
  | revert => exact popRange_mapCtx fun _ _ => rfl
  | suicide => exact pop_mapCtx fun _ _ => rfl

theorem step_mapCtx {g : Context → Context} (hoperands : ∀ c, SameOperandRegisters (g c) c)
    (hheight : ∀ c, (g c).height = c.height) (s : State) : step (s.mapCtx g) = mapNext (State.mapCtx g) (step s) := by
  obtain ⟨hend, e⟩ | ⟨hrun, hend, e⟩ | ⟨hrun, -, op, following, hdrop, e⟩ := step_cases s
  · rw [e, step_of_ended (s := s.mapCtx g) hend, mapNext]
  · rw [e, step_of_length_le (s := s.mapCtx g) hrun hend, raise_mapCtx]
  · rw [e, step_of_drop (s := s.mapCtx g) hrun hdrop, exec_mapCtx hoperands (fun _ => hheight)]

end Sys2Proof.Machine

namespace Sys2Proof.Proofs

open Sys2Proof.Machine

/-- Settles O23: the replaced registers are none of those an operand reads, and height is not among the first three. -/
theorem unreadRegistersDoNotInfluenceAStep : Obligations.UnreadRegistersDoNotInfluenceAStep :=
  ⟨fun s gasprice gas timestamp =>
      step_mapCtx (g := fun c => { c with gasprice := gasprice, gas := gas, timestamp := timestamp })
        (fun _ => ⟨rfl, rfl, rfl, rfl⟩) (fun _ => rfl) s,
    fun _ s height hi =>
      exec_mapCtx (g := fun c => { c with height := height }) (fun _ => ⟨rfl, rfl, rfl, rfl⟩) (fun e => absurd e hi) s⟩

end Sys2Proof.Proofs
end

section
/-! Exponentiation (41_alu.md R141): square-and-multiply and repeated multiplication, both by value. -/

namespace Sys2Proof.Machine

/-- Squaring the base halves the exponent. -/
theorem auPow_toNat {bits : Nat} (a : Word) {e : Nat} (h : e < 2 ^ bits) :
    (auPow bits a e).toNat = a.toNat ^ e % wordModulus := by
  induction bits generalizing a e with
  | zero =>
    obtain rfl : e = 0 := by omega
    rfl
  | succ bits ih =>
    have hsquare : (auPow bits (auMul a a) (e / 2)).toNat = a.toNat ^ (2 * (e / 2)) % wordModulus := by
      rw [ih _ (by omega), auMul_toNat, ← Nat.pow_mod, ← Nat.pow_two, ← Nat.pow_mul]
    rw [auPow]
    split
    next hodd =>
      have he : 2 * (e / 2) + 1 = e := by omega
      rw [auMul_toNat, hsquare, Nat.mul_mod_mod, ← Nat.pow_succ', Nat.succ_eq_add_one, he]
    next heven =>
      have he : 2 * (e / 2) = e := by omega
      rw [hsquare, he]

theorem auExp_toNat (a e : Word) : (auExp a e).toNat = a.toNat ^ e.toNat % wordModulus := auPow_toNat a e.isLt

theorem expLoop_toNat (a : Word) (n : Nat) : (expLoop a n).toNat = a.toNat ^ n % wordModulus := by
  induction n with
  | zero => rfl
  | succ n ih => rw [expLoop, auMul_toNat, ih, Nat.mod_mul_mod, Nat.pow_succ]

end Sys2Proof.Machine

namespace Sys2Proof.Proofs

open Sys2Proof.Machine

/-- Settles O33: the loop has the closed form's value too. -/
theorem exponentiationIsRepeatedMultiplication : Obligations.ExponentiationIsRepeatedMultiplication := fun a e =>
  ⟨auExp_toNat a e, BitVec.eq_of_toNat_eq ((expLoop_toNat a e.toNat).trans (auExp_toNat a e).symm)⟩

/-- Settles O37: both sides of 2^32. -/
theorem conversionToMachineInteger : Obligations.ConversionToMachineInteger := fun w =>
  ⟨auToU32_ok w, fun h => auToU32_error w h.not_gt, rfl⟩

end Sys2Proof.Proofs
end

section
/-! The textual renderings (41_alu.md R165, R166): digits of bytes, and what is left without leading zeros. -/

namespace Sys2Proof.Machine

/-! ## Leading elements dropped -/

theorem exists_replicate_append_dropWhile {α : Type} [BEq α] [LawfulBEq α] (c : α) (l : List α) :
    ∃ n, l = List.replicate n c ++ l.dropWhile (· == c) := by
  induction l with
  | nil => exact ⟨0, rfl⟩
  | cons x l ih =>
    by_cases hx : x = c
    · obtain ⟨n, hn⟩ := ih
      refine ⟨n + 1, ?_⟩
      rw [hx, List.dropWhile_cons_of_pos (by simp), List.replicate_succ, List.cons_append, ← hn]
    · exact ⟨0, by rw [List.dropWhile_cons_of_neg (by simpa using hx)]; rfl⟩

theorem head?_dropWhile_ne {α : Type} [BEq α] [LawfulBEq α] (c : α) (l : List α) :
    (l.dropWhile (· == c)).head? ≠ some c := fun h => by
  have hnot := List.head?_dropWhile_not (· == c) l
  simp [h] at hnot

/-! ## Digits -/

theorem hexDigit_inj : ∀ m < 16, ∀ n < 16, hexDigit m = hexDigit n → m = n := by decide +kernel

theorem hexDigit_zero : hexDigit 0 = '0' := by decide +kernel

theorem hexOfBytes_cons (b : Byte) (bs : List Byte) :
    hexOfBytes (b :: bs) = hexDigit (b.toNat / 16) :: hexDigit (b.toNat % 16) :: hexOfBytes bs := rfl

theorem hexOfBytes_append (bs cs : List Byte) : hexOfBytes (bs ++ cs) = hexOfBytes bs ++ hexOfBytes cs :=
  List.flatMap_append

theorem hexOfBytes_length (bs : List Byte) : (hexOfBytes bs).length = 2 * bs.length := by
  induction bs with
  | nil => rfl
  | cons b bs ih => rw [hexOfBytes_cons, List.length_cons, List.length_cons, ih, List.length_cons]; omega

theorem hexOfBytes_replicate_zero (n : Nat) : hexOfBytes (List.replicate n 0#8) = List.replicate (2 * n) '0' := by
  induction n with
  | zero => rfl
  | succ n ih => rw [List.replicate_succ, hexOfBytes_cons, ih, Nat.mul_succ]; simp [hexDigit_zero, List.replicate_succ]

/-- The two digits of a byte determine it. -/
theorem byte_eq_of_hexDigits_eq {x y : Byte} (hhigh : hexDigit (x.toNat / 16) = hexDigit (y.toNat / 16))
    (hlow : hexDigit (x.toNat % 16) = hexDigit (y.toNat % 16)) : x = y := by
  have hx := x.isLt
  have hy := y.isLt
  have hdiv := hexDigit_inj _ (by omega) _ (by omega) hhigh
  have hmod := hexDigit_inj _ (by omega) _ (by omega) hlow
  exact BitVec.eq_of_toNat_eq (by omega)

theorem hexOfBytes_inj {xs ys : List Byte} (h : hexOfBytes xs = hexOfBytes ys) : xs = ys := by
  induction xs generalizing ys with
  | nil =>
    cases ys with
    | nil => rfl
    | cons y ys => cases h
  | cons x xs ih =>
    cases ys with
    | nil => cases h
    | cons y ys =>
      simp only [hexOfBytes_cons, List.cons.injEq] at h
      obtain ⟨hhigh, hlow, htail⟩ := h
      rw [byte_eq_of_hexDigits_eq hhigh hlow, ih htail]

/-! ## The renderings -/

theorem auHexFull_length (w : Word) : (auHexFull w).length = 64 := by
  rw [auHexFull, hexOfBytes_length, auBytes32_length]

theorem auHexFull_inj {v w : Word} (h : auHexFull v = auHexFull w) : v = w := auBytes32_inj.mp (hexOfBytes_inj h)

theorem eq_zero_of_auBytes32_eq_replicate {w : Word} {n : Nat} (h : auBytes32 w = List.replicate n 0#8) : w = W 0 := by
  apply BitVec.eq_of_toNat_eq
  rw [← natOfBytes_auBytes32, h, ← List.append_nil (List.replicate n 0#8), natOfBytes_replicate_zero_append]
  rfl

theorem eq_zero_of_auHexFull_eq_replicate {w : Word} {n : Nat} (h : auHexFull w = List.replicate n '0') : w = W 0 := by
  obtain rfl : n = 2 * 32 := by
    rw [← List.length_replicate (n := n) (a := '0'), ← h, auHexFull_length]
  rw [← hexOfBytes_replicate_zero] at h
  exact eq_zero_of_auBytes32_eq_replicate (hexOfBytes_inj h)

theorem dropWhile_auHexFull_ne_nil {w : Word} (hw : w ≠ W 0) : (auHexFull w).dropWhile (· == '0') ≠ [] := fun h => by
  obtain ⟨n, hn⟩ := exists_replicate_append_dropWhile '0' (auHexFull w)
  rw [h, List.append_nil] at hn
  exact hw (eq_zero_of_auHexFull_eq_replicate hn)

theorem dropWhile_auBytes32_ne_nil {w : Word} (hw : w ≠ W 0) : (auBytes32 w).dropWhile (· == 0#8) ≠ [] := fun h => by
  obtain ⟨n, hn⟩ := exists_replicate_append_dropWhile 0#8 (auBytes32 w)
  rw [h, List.append_nil] at hn
  exact hw (eq_zero_of_auBytes32_eq_replicate hn)

theorem auHexMinNibble_of_ne_zero {w : Word} (hw : w ≠ W 0) : auHexMinNibble w = (auHexFull w).dropWhile (· == '0') := by
  rw [auHexMinNibble]
  split
  next h => exact absurd h (dropWhile_auHexFull_ne_nil hw)
  next => rfl

theorem auHexMinByte_of_ne_zero {w : Word} (hw : w ≠ W 0) :
    auHexMinByte w = hexOfBytes ((auBytes32 w).dropWhile (· == 0#8)) := by
  rw [auHexMinByte]
  split
  next h => exact absurd h (dropWhile_auBytes32_ne_nil hw)
  next => rfl

/-- A byte that is not zero has a digit that is not. -/
theorem take_two_hexOfBytes_ne {b : Byte} (hb : b ≠ 0#8) (bs : List Byte) : (hexOfBytes (b :: bs)).take 2 ≠ ['0', '0'] := by
  intro h
  rw [hexOfBytes_cons, ← hexDigit_zero] at h
  simp only [List.take_succ_cons, List.take_zero, List.cons.injEq, and_true] at h
  exact hb (byte_eq_of_hexDigits_eq h.1 h.2)

theorem auHexMinByte_leading {w : Word} (hw : w ≠ W 0) :
    (∃ n, auHexFull w = List.replicate (2 * n) '0' ++ auHexMinByte w) ∧ (auHexMinByte w).take 2 ≠ ['0', '0'] ∧
      auHexMinByte w ≠ [] := by
  obtain ⟨n, hn⟩ := exists_replicate_append_dropWhile 0#8 (auBytes32 w)
  have hhead := head?_dropWhile_ne 0#8 (auBytes32 w)
  obtain ⟨b, bs, hbs⟩ := List.exists_cons_of_ne_nil (dropWhile_auBytes32_ne_nil hw)
  rw [auHexMinByte_of_ne_zero hw, hbs]
  rw [hbs] at hn hhead
  refine ⟨⟨n, ?_⟩, take_two_hexOfBytes_ne (fun hb => hhead (congrArg some hb)) bs, nofun⟩
  rw [auHexFull, hn, hexOfBytes_append, hexOfBytes_replicate_zero]

end Sys2Proof.Machine

namespace Sys2Proof.Proofs

open Sys2Proof.Machine

/-- Settles O38: two digits determine a byte and 32 bytes a Word; the leading zeros dropped never are all of a non-zero Word. -/
theorem hexRenderings : Obligations.HexRenderings := by
  refine ⟨auHexFull_length, fun v w => auHexFull_inj, by decide +kernel, by decide +kernel, fun w hw => ?_⟩
  rw [auHexMinNibble_of_ne_zero hw]
  exact ⟨exists_replicate_append_dropWhile '0' _, head?_dropWhile_ne '0' _, auHexMinByte_leading hw⟩

end Sys2Proof.Proofs
end

section
/-! The memory unit (20_memory.md R62 to R67) and construction (10_state.md R47). -/

namespace Sys2Proof.Machine

open Sys2Proof.Claims

/-! ## Expansion -/

theorem expand_fits {n : Nat} {s : State} (h : s.mem.size < granules n → memFits s.params (granules n) = true)
    (k : State → Out) : expand n s k = k (s.withMem (s.mem.grown n)) := by
  obtain ⟨e, -⟩ | ⟨hfull, hgrows, -⟩ := expand_cases n s k
  · exact e
  · exact absurd (h hgrows) (Bool.eq_false_iff.mp hfull)

theorem Memory.grown_granular (m : Memory) (n : Nat) (h : m.size % 32 = 0) : (m.grown n).size % 32 = 0 := by
  rw [Memory.grown_size, roundUp_eq_granules, granules]
  omega

theorem Memory.grown_of_le_size {m : Memory} {n : Nat} (h : m.size % 32 = 0) (hle : n ≤ m.size) : m.grown n = m := by
  refine m.grown_of_le n ?_
  rw [roundUp_eq_granules, granules]
  omega

/-! ## The canonical form is unique -/

theorem cellRead_of_lt {cs : List Host.Cell} {a : Nat} (h : ∀ c ∈ cs, a < c.1) : cellRead cs a = unlistedByte := by
  induction cs with
  | nil => rfl
  | cons c cs ih =>
    obtain ⟨hc, hcs⟩ := List.forall_mem_cons.mp h
    rw [cellRead, if_neg hc.ne, ih hcs]

theorem cellRead_head (c : Host.Cell) (cs : List Host.Cell) : cellRead (c :: cs) c.1 = c.2 := if_pos rfl

/-- The least address listed in one of two cell lists that read the same is listed in the other. -/
theorem head_address_le {c : Host.Cell} {cs ds : List Host.Cell} (hc : c.2 ≠ unlistedByte)
    (hread : cellRead (c :: cs) c.1 = cellRead ds c.1) : ¬ ∀ d ∈ ds, c.1 < d.1 := fun h =>
  hc (by rw [← cellRead_head c cs, hread, cellRead_of_lt h])

theorem cells_eq_of_cellRead_eq {cs ds : List Host.Cell} (hcs : cs.Pairwise (fun x y => x.1 < y.1))
    (hds : ds.Pairwise (fun x y => x.1 < y.1)) (hcn : ∀ c ∈ cs, c.2 ≠ unlistedByte)
    (hdn : ∀ d ∈ ds, d.2 ≠ unlistedByte) (hread : ∀ a, cellRead cs a = cellRead ds a) : cs = ds := by
  induction cs generalizing ds with
  | nil =>
    cases ds with
    | nil => rfl
    | cons d ds => exact absurd nofun (head_address_le (hdn d (by simp)) (hread d.1).symm)
  | cons c cs ih =>
    cases ds with
    | nil => exact absurd nofun (head_address_le (hcn c (by simp)) (hread c.1))
    | cons d ds =>
      obtain ⟨hclt, hcs⟩ := List.pairwise_cons.mp hcs
      obtain ⟨hdlt, hds⟩ := List.pairwise_cons.mp hds
      obtain ⟨hc, hcn⟩ := List.forall_mem_cons.mp hcn
      obtain ⟨hd, hdn⟩ := List.forall_mem_cons.mp hdn
      have haddr : c.1 = d.1 := by
        have hle : ¬ c.1 < d.1 := fun hlt =>
          head_address_le hc (hread c.1) (List.forall_mem_cons.mpr ⟨hlt, fun x hx => hlt.trans (hdlt x hx)⟩)
        have hge : ¬ d.1 < c.1 := fun hlt =>
          head_address_le hd (hread d.1).symm (List.forall_mem_cons.mpr ⟨hlt, fun x hx => hlt.trans (hclt x hx)⟩)
        omega
      have hvalue : c.2 = d.2 := by rw [← cellRead_head c cs, hread, haddr, cellRead_head]
      refine congrArg₂ List.cons (Prod.ext haddr hvalue) (ih hcs hds hcn hdn fun a => ?_)
      by_cases ha : a = c.1
      · rw [ha, cellRead_of_lt hclt, cellRead_of_lt (haddr ▸ hdlt)]
      · have := hread a
        rwa [cellRead, cellRead, if_neg ha, if_neg (haddr ▸ ha)] at this

/-! ## Construction -/

theorem auWord_eq_ok_iff {bs : List Byte} {w : Word} : auWord bs = .ok w ↔ bs.length ≤ 32 ∧ W (natOfBytes bs) = w := by
  by_cases h : bs.length ≤ 32
  · simp [auWord_ok bs h, h]
  · simp [auWord_error bs (Nat.lt_of_not_le h), h]

/-- The byte sequences of the context scalars. -/
def ConstructArgs.scalars (a : ConstructArgs) : List (List Byte) :=
  [a.sender, a.recipient, a.value, a.gasprice, a.gas, a.height, a.timestamp]

/-- The context registers a granted request gives. -/
def ConstructArgs.registers (a : ConstructArgs) : Context :=
  { sender := W (natOfBytes a.sender), recipient := W (natOfBytes a.recipient), value := W (natOfBytes a.value)
    input := a.input, gasprice := W (natOfBytes a.gasprice), gas := W (natOfBytes a.gas)
    height := W (natOfBytes a.height), timestamp := W (natOfBytes a.timestamp) }

theorem context_of_le {a : ConstructArgs} (h : ∀ bs ∈ a.scalars, bs.length ≤ 32) : a.context = .ok a.registers := by
  simp only [ConstructArgs.scalars, List.forall_mem_cons] at h
  obtain ⟨h1, h2, h3, h4, h5, h6, h7, -⟩ := h
  simp only [ConstructArgs.context, auWord_ok _ h1, auWord_ok _ h2, auWord_ok _ h3, auWord_ok _ h4, auWord_ok _ h5,
    auWord_ok _ h6, auWord_ok _ h7]
  rfl

theorem exists_ok_of_bind_eq_ok {ε α β : Type} {x : Except ε α} {f : α → Except ε β} {b : β} (h : x >>= f = .ok b) :
    ∃ v, x = .ok v ∧ f v = .ok b := by
  cases x with
  | ok v => exact ⟨v, rfl, h⟩
  | error e => cases h

theorem scalars_le_of_context_ok {a : ConstructArgs} {c : Context} (h : a.context = .ok c) :
    ∀ bs ∈ a.scalars, bs.length ≤ 32 := by
  unfold ConstructArgs.context at h
  obtain ⟨_, h1, h⟩ := exists_ok_of_bind_eq_ok h
  obtain ⟨_, h2, h⟩ := exists_ok_of_bind_eq_ok h
  obtain ⟨_, h3, h⟩ := exists_ok_of_bind_eq_ok h
  obtain ⟨_, h4, h⟩ := exists_ok_of_bind_eq_ok h
  obtain ⟨_, h5, h⟩ := exists_ok_of_bind_eq_ok h
  obtain ⟨_, h6, h⟩ := exists_ok_of_bind_eq_ok h
  obtain ⟨_, h7, -⟩ := exists_ok_of_bind_eq_ok h
  rw [auWord_eq_ok_iff] at h1 h2 h3 h4 h5 h6 h7
  simp [ConstructArgs.scalars, h1.1, h2.1, h3.1, h4.1, h5.1, h6.1, h7.1]

/-- The bounds within which `construct` grants the request (D40). -/
def ConstructArgs.WithinBounds (a : ConstructArgs) : Prop :=
  a.code.length ≤ a.params.codeMaxLen ∧ a.code.length < 2 ^ 32 ∧ a.input.length < 2 ^ 32 ∧
    ∀ bs ∈ a.scalars, bs.length ≤ 32

/-- The reset state with what the driver supplied. -/
def ConstructArgs.constructed (a : ConstructArgs) : State :=
  { State.reset with
    code := a.code, ctx := a.registers, params := a.params, storage := Storage.ofList (a.preseed.getD []) }

theorem construct_of_withinBounds {a : ConstructArgs} (h : a.WithinBounds) : construct a = some a.constructed := by
  obtain ⟨hmax, hcode, hinput, hscalars⟩ := h
  rw [construct, if_pos ⟨hmax, hcode, hinput⟩, context_of_le hscalars]
  rfl

theorem withinBounds_of_construct {a : ConstructArgs} {s : State} (h : construct a = some s) : a.WithinBounds := by
  unfold construct at h
  split at h
  next hlen =>
    split at h
    next hctx => exact ⟨hlen.1, hlen.2.1, hlen.2.2, scalars_le_of_context_ok hctx⟩
    next => cases h
  next => cases h

end Sys2Proof.Machine

namespace Sys2Proof.Proofs

open Sys2Proof.Machine Sys2Proof.Claims

/-- Settles O25: memory grown to `granules n`, which where it grows fits. -/
theorem expandRoundsUpAndNeverShrinks : Obligations.ExpandRoundsUpAndNeverShrinks := fun n s hwf room =>
  ⟨s.mem.grown n, expand_fits room, s.mem.grown_wf n hwf, s.mem.grown_size n, s.mem.grown_covers n, s.mem.grown_byte n,
    fun a ha => (s.mem.grown_byte n a).trans (s.mem.byte_past_end hwf a ha), s.mem.grown_granular n,
    Memory.grown_of_le_size⟩

/-- Settles O26: the laws of one byte written, byte by byte. -/
theorem memoryReadAfterWrite : Obligations.MemoryReadAfterWrite := fun m o bs hwf hin =>
  ⟨m.write_wf o bs hwf hin, m.write_size o bs, fun i hi => m.byte_write_at o bs i hi hwf hin, m.byte_write_other o bs,
    m.read_write_same o bs hwf hin, fun _ _ => rfl⟩

/-- Settles O27: two rising cell lists without `unlistedByte` list the same least address, with the same byte. -/
theorem canonicalMemoriesAreEqualData : Obligations.CanonicalMemoriesAreEqualData := by
  intro m m' hwf hwf' hsize hbyte
  obtain ⟨size, cells⟩ := m
  obtain ⟨size', cells'⟩ := m'
  have hcells : cells = cells' := cells_eq_of_cellRead_eq hwf.1 hwf'.1 (fun c hc => (hwf.2 c hc).1)
    (fun c hc => (hwf'.2 c hc).1) hbyte
  exact congrArg₂ Memory.mk hsize hcells

/-- Settles O16: the request is granted within its bounds alone, and what it gives is the reset state with the arguments. -/
theorem constructGivesTheResetState : Obligations.ConstructGivesTheResetState := by
  refine fun a => ⟨⟨fun h => ?_, fun h => ?_⟩, fun s h => ?_⟩
  · obtain ⟨s, h⟩ := Option.isSome_iff_exists.mp h
    exact withinBounds_of_construct h
  · rw [construct_of_withinBounds h]
    rfl
  · obtain rfl : a.constructed = s := Option.some.inj ((construct_of_withinBounds (withinBounds_of_construct h)).symm.trans h)
    have hregister (bs : List Byte) : W (natOfBytes bs) = W (bigEndian bs.length fun k => bs.getD k 0#8) :=
      congrArg W (natOfBytes_eq_bigEndian bs)
    refine ⟨rfl, rfl, rfl, rfl, fun _ => rfl, rfl, rfl, rfl, rfl, rfl, rfl, Storage.ofList_wf _, ?_,
      Storage.find_ofList_absent _, rfl, hregister _, hregister _, hregister _, hregister _, hregister _, hregister _,
      hregister _⟩
    intro before key v after hpairs hlast
    have hfind := Storage.find_ofList_last before after key v hlast
    rwa [← hpairs] at hfind

end Sys2Proof.Proofs
end

section
/-! The shared operations on each side of their conditions, in the terms of the claims: an instruction's own statement is read
off from these. -/

namespace Sys2Proof.Machine

open Sys2Proof.Claims

variable {s : State}

/-! ## Operands -/

theorem popThree_of_length_lt_three (h : s.stack.length < 3) (k : Word → Word → Word → State → Out) :
    popThree s k = raise .stackUnderflow s := by
  obtain ⟨-, e⟩ | ⟨a, b, c, rest, hs, -⟩ := popThree_cases s k
  · exact e
  · simp [hs] at h
    omega

theorem popMany_append {n : Nat} {topics rest : List Word} (hs : s.stack = topics ++ rest) (hn : topics.length = n)
    (k : List Word → State → Out) : popMany n s k = k topics (s.withStack rest) := by
  obtain ⟨hlt, -⟩ | ⟨-, e⟩ := popMany_cases n s k
  · simp [hs, hn] at hlt
  · rw [e, hs, List.take_left' hn, List.drop_left' hn]

theorem popMany_of_length_lt {n : Nat} (h : s.stack.length < n) (k : List Word → State → Out) :
    popMany n s k = raise .stackUnderflow s := by
  obtain ⟨-, e⟩ | ⟨hle, -⟩ := popMany_cases n s k
  · exact e
  · omega

theorem pushResult_full (h : ¬ roomOnStack s (s.stack.length + 1)) (v : Word) :
    pushResult v s = .fault .stackCapacityExceeded := by
  obtain ⟨hfits, -⟩ | ⟨-, e⟩ := pushResult_cases v s
  · exact absurd hfits h
  · exact e

/-! ## Covered accesses -/

theorem cover_memRead_of_room {o n : Nat} (h : roomInMemory s o n) (k : List Byte → State → Out) :
    (cover o n s fun t => memRead o n t fun bs => k bs t) = k (slice s o n) (s.withMem (covered s o n)) := by
  obtain ⟨-, e⟩ | ⟨hfull, -⟩ := cover_memRead_cases o n s k
  · rw [e, coveredMem_eq_covered]
    rfl
  · exact absurd hfull (not_overfull_of_roomInMemory h)

theorem cover_memWrite_of_room {o n : Nat} {bs : List Byte} (hn : n = bs.length) (h : roomInMemory s o n)
    (k : State → Out) : (cover o n s fun t => memWrite o bs t k) = k (s.withMem ((covered s o n).write o bs)) := by
  obtain ⟨-, e⟩ | ⟨hfull, -⟩ := cover_memWrite_cases o bs n hn s k
  · rw [e, coveredMem_eq_covered]
  · exact absurd hfull (not_overfull_of_roomInMemory h)

theorem cover_full {o n : Nat} (h : ¬ roomInMemory s o n) (k : State → Out) :
    cover o n s k = .fault .memCapacityExceeded :=
  cover_overfull (overfull_iff_not_roomInMemory.mpr h) k

/-- What a covered write leaves behind: the new length, the bytes in its range, every other byte as before. -/
theorem covered_write (hwf : s.mem.wf) {o n : Nat} {bs : List Byte} (hn : n = bs.length) :
    ((covered s o n).write o bs).size = coveredSize s o n ∧
    (∀ i, (h : i < bs.length) → ((covered s o n).write o bs).byte (o + i) = bs[i]) ∧
    (∀ a, a < o ∨ o + n ≤ a → ((covered s o n).write o bs).byte a = s.mem.byte a) := by
  subst hn
  rw [← coveredMem_eq_covered]
  refine ⟨?_, fun i hi => ?_, fun a ha => ?_⟩
  · rw [Memory.write_size, coveredMem_size]
  · exact Memory.byte_write_at _ o bs i hi (coveredMem_wf s o _ hwf) (coveredMem_covers s o _ (Nat.zero_lt_of_lt hi))
  · rw [Memory.byte_write_other _ o bs a ha, coveredMem_byte]

section Range

variable {offset size : Word} {rest : List Word}

theorem popRange_of_length_lt_two (h : s.stack.length < 2) (k : List Byte → State → Out) :
    popRange s k = raise .stackUnderflow s :=
  popTwo_of_length_lt_two h _

theorem popRange_of_le (hs : s.stack = offset :: size :: rest) (h : 2 ^ 32 ≤ offset.toNat ∨ 2 ^ 32 ≤ size.toNat)
    (k : List Byte → State → Out) : popRange s k = raise .conversionOverflow s := by
  obtain ⟨hlen, -⟩ | ⟨offset', size', rest', hs', ⟨-, e⟩ | ⟨ho, hn, -⟩⟩ := popRange_cases s k
  · simp [hs] at hlen
  · exact e
  · simp only [hs, List.cons.injEq] at hs'
    obtain ⟨rfl, rfl, rfl⟩ := hs'
    omega

theorem popRange_eq {o n : Nat} (hs : s.stack = offset :: size :: rest) (ho : auToU32 offset = .ok o)
    (hn : auToU32 size = .ok n) (k : List Byte → State → Out) :
    popRange s k = cover o n (s.withStack rest) fun t => memRead o n t fun bs => k bs t := by
  rw [popRange, popTwo_eq hs, toIndex_of_auToU32_ok ho, toIndex_of_auToU32_ok hn]

theorem popRange_of_room {o n : Nat} (hs : s.stack = offset :: size :: rest) (ho : auToU32 offset = .ok o)
    (hn : auToU32 size = .ok n) (room : roomInMemory s o n) (k : List Byte → State → Out) :
    popRange s k = k (slice s o n) ((s.withStack rest).withMem (covered s o n)) :=
  (popRange_eq hs ho hn k).trans (cover_memRead_of_room (s := s.withStack rest) room k)

theorem popRange_full {o n : Nat} (hs : s.stack = offset :: size :: rest) (ho : auToU32 offset = .ok o)
    (hn : auToU32 size = .ok n) (full : ¬ roomInMemory s o n) (k : List Byte → State → Out) :
    popRange s k = .fault .memCapacityExceeded :=
  (popRange_eq hs ho hn k).trans (cover_full (s := s.withStack rest) full _)

end Range

/-! ## Jumps -/

theorem validDest_iff {d : Nat} : validDest s d = true ↔ s.code[d]? = some 0x5b#8 := by
  rw [validDest, Bool.and_eq_true, beq_iff_eq, decide_eq_true_eq]
  exact ⟨And.right, fun h => ⟨(List.getElem?_eq_some_iff.mp h).1, h⟩⟩

theorem takeJump_of_valid {dest : Word} {d : Nat} (hd : auToU32 dest = .ok d) (h : s.code[d]? = some 0x5b#8) :
    takeJump dest s = .next (s.withPc d) := by
  rw [takeJump, toIndex_of_auToU32_ok hd, if_pos (validDest_iff.mpr h), jumpTo]

theorem takeJump_of_invalid {dest : Word} {d : Nat} (hd : auToU32 dest = .ok d) (h : s.code[d]? ≠ some 0x5b#8) :
    takeJump dest s = raise .invalidJumpDestination s := by
  rw [takeJump, toIndex_of_auToU32_ok hd, if_neg (mt validDest_iff.mp h)]

theorem takeJump_of_le {dest : Word} (h : 2 ^ 32 ≤ dest.toNat) : takeJump dest s = raise .conversionOverflow s :=
  toIndex_of_le h s _

/-! ## PUSHn, DUPn, SWAPn -/

theorem pushImmediate_of_length_le {n : Nat} (h : s.code.length ≤ s.pc + n) (imm : List Byte) :
    pushImmediate n imm s = raise .noMoreInstructions s :=
  if_pos h

theorem pushImmediate_eq_push {n : Nat} {imm : List Byte} (hpc : s.pc + n < s.code.length) (himm : imm.length ≤ 32) :
    pushImmediate n imm s = push (W (natOfBytes imm)) s (advance (1 + n)) := by
  rw [pushImmediate, if_neg (Nat.not_le.mpr hpc), orRaise_auWord himm]

theorem dupEntry_eq_pushResult {n : Nat} {v : Word} (h : s.stack[n - 1]? = some v) : dupEntry n s = pushResult v s :=
  peek_of_getElem? h _

theorem exec_dup {p : Nat × Instr} (hp : p ∈ dups) (s : State) : exec p.2 s = dupEntry p.1 s := by
  fin_cases hp <;> rfl

theorem exec_swap {p : Nat × Instr} (hp : p ∈ swaps) (s : State) : exec p.2 s = swapEntry p.1 s := by
  fin_cases hp <;> rfl

theorem exec_log {p : Nat × Instr} (hp : p ∈ logInstrs) (s : State) : exec p.2 s = logRecord p.1 s := by
  fin_cases hp <;> rfl

/-! ## Instructions by their number of operands -/

theorem twoOperand_congr {i : Instr} {f g : Word → Word → Word} (h : twoOperand i f) (e : ∀ a b, f a b = g a b) :
    twoOperand i g := by
  obtain rfl : f = g := funext₂ e
  exact h

theorem oneOperand_congr {i : Instr} {f g : Word → Word} (h : oneOperand i f) (e : ∀ a, f a = g a) : oneOperand i g := by
  obtain rfl : f = g := funext e
  exact h

theorem oneOperand_of_exec_eq_unaryOp {i : Instr} {f : Word → Word} (h : ∀ s, exec i s = unaryOp f s) : oneOperand i f :=
  fun s => ⟨fun a _ hs room => (h s).trans ((pop_cons hs _).trans (pushResult_fits room (f a))),
    fun empty => (h s).trans (pop_nil empty _)⟩

theorem threeOperand_of_exec_eq_ternaryOp {i : Instr} {f : Params → Word → Word → Word → Word}
    (h : exec i = ternaryOp f) : threeOperand i f := fun s =>
  ⟨fun a b m _ hs room => (congrFun h s).trans ((popThree_eq hs _).trans (pushResult_fits room (f s.params a b m))),
    fun few => (congrFun h s).trans (popThree_of_length_lt_three few _)⟩

theorem pureRead_of_exec_eq_pushResult {i : Instr} {f : State → Word} (h : ∀ s, exec i s = pushResult (f s) s) :
    pureRead i f := fun s room => (h s).trans (pushResult_fits room (f s))

end Sys2Proof.Machine
end

section
/-! Arithmetic, bitwise, comparison, context and stack instructions (42_arithmetic.md, 43_comparison.md, 45_context.md,
48_stack.md). -/

namespace Sys2Proof.Machine

open Sys2Proof.Claims

/-! ## The unit's results as the claims write them -/

theorem auSub_eq_W_mod (a b : Word) : auSub a b = W ((a.toNat + (2 ^ 256 - b.toNat)) % 2 ^ 256) := by
  rw [← W_toNat_eq_self (auSub a b), auSub_eq, BitVec.toNat_sub, Nat.add_comm]

theorem auMul_eq_W_mod (a b : Word) : auMul a b = W (a.toNat * b.toNat % 2 ^ 256) := by
  rw [← W_toNat_eq_self (auMul a b), auMul_toNat]

theorem auExp_eq_W_mod (a b : Word) : auExp a b = W (a.toNat ^ b.toNat % 2 ^ 256) := by
  rw [← W_toNat_eq_self (auExp a b), auExp_toNat]

theorem auNot_eq_W (a : Word) : auNot a = W (2 ^ 256 - 1 - a.toNat) := by
  rw [← W_toNat_eq_self (auNot a), auNot, BitVec.toNat_not]

theorem boolWord_of_iff {b : Bool} {p : Prop} [Decidable p] (h : b = true ↔ p) : boolWord b = if p then W 1 else W 0 := by
  simp only [boolWord, h]

/-! ## Jumps -/

theorem exec_jump_of_cons {s : State} {dest : Word} {rest : List Word} (hs : s.stack = dest :: rest) :
    exec .jump s = takeJump dest (s.withStack rest) :=
  (exec_jump s).trans (pop_cons hs _)

theorem exec_jumpi_of_ne_zero {s : State} {dest cond : Word} {rest : List Word} (hs : s.stack = dest :: cond :: rest)
    (hc : cond ≠ W 0) : exec .jumpi s = takeJump dest (s.withStack rest) := by
  rw [exec_jumpi, popTwo_eq hs, if_pos ((auNe_iff _ _).mpr hc)]

/-! ## Immediates -/

theorem bigEndian_congr {n : Nat} {b c : Nat → Byte} (h : ∀ k < n, b k = c k) : bigEndian n b = bigEndian n c := by
  rw [bigEndian, bigEndian, List.map_congr_left fun k hk => by rw [h k (List.mem_range.mp hk)]]

theorem natOfBytes_take {bs : List Byte} {n : Nat} (h : n ≤ bs.length) :
    natOfBytes (bs.take n) = bigEndian n fun k => bs.getD k 0#8 := by
  rw [natOfBytes_eq_bigEndian, List.length_take_of_le h]
  refine bigEndian_congr fun k hk => ?_
  rw [List.getD_eq_getElem?_getD, List.getElem?_take_of_lt hk, List.getD_eq_getElem?_getD]

theorem natOfBytes_bytesFrom (bs : List Byte) (start n : Nat) : natOfBytes (bytesFrom bs start n) =
    bigEndian n fun k => if start + k < bs.length then bs.getD (start + k) 0#8 else 0#8 := by
  rw [natOfBytes_eq_bigEndian, bytesFrom_length]
  refine bigEndian_congr fun k hk => ?_
  simp [bytesFrom, hk]

theorem exec_push_of_lt {p : Nat × (List Byte → Instr)} (hp : p ∈ pushes) {imm : List Byte} (himm : imm.length ≤ 32)
    {s : State} (hpc : s.pc + p.1 < s.code.length) (room : roomOnStack s (s.stack.length + 1)) :
    exec (p.2 imm) s = .next { s with stack := W (natOfBytes imm) :: s.stack, pc := s.pc + 1 + p.1 } := by
  rw [exec_push hp, pushImmediate_eq_push hpc himm, push_fits room, advance, Nat.add_assoc]
  rfl

end Sys2Proof.Machine

namespace Sys2Proof.Proofs

open Sys2Proof.Machine Sys2Proof.Claims

/-- Settles O40: the results of the unit; DIV and MOD give 0 where it has none. -/
theorem subMulDivModExpInstructions : Obligations.SubMulDivModExpInstructions :=
  ⟨twoOperand_congr (twoOperand_of_exec_eq_binaryOp fun _ => rfl) auSub_eq_W_mod,
    twoOperand_congr (twoOperand_of_exec_eq_binaryOp fun _ => rfl) auMul_eq_W_mod,
    twoOperand_of_exec_eq_binaryOp (congrFun exec_div),
    twoOperand_of_exec_eq_binaryOp (congrFun exec_mod),
    twoOperand_congr (twoOperand_of_exec_eq_binaryOp fun _ => rfl) auExp_eq_W_mod⟩

/-- Settles O41. -/
theorem bitwiseInstructions : Obligations.BitwiseInstructions :=
  ⟨twoOperand_of_exec_eq_binaryOp fun _ => rfl, twoOperand_of_exec_eq_binaryOp fun _ => rfl,
    twoOperand_of_exec_eq_binaryOp fun _ => rfl, oneOperand_congr (oneOperand_of_exec_eq_unaryOp fun _ => rfl) auNot_eq_W⟩

/-- Settles O42: the residue under either setting, the unit's error at a zero modulus never reached. -/
theorem addmodMulmodInstructions : Obligations.AddmodMulmodInstructions :=
  ⟨threeOperand_of_exec_eq_ternaryOp exec_addmod, threeOperand_of_exec_eq_ternaryOp exec_mulmod⟩

/-- Settles O43: each pushes the Word of the unit's comparison. -/
theorem comparisonInstructions : Obligations.ComparisonInstructions :=
  ⟨twoOperand_congr (twoOperand_of_exec_eq_binaryOp fun _ => rfl) fun a b => boolWord_of_iff (auLt_iff a b),
    twoOperand_congr (twoOperand_of_exec_eq_binaryOp fun _ => rfl) fun a b => boolWord_of_iff (auGt_iff a b),
    twoOperand_congr (twoOperand_of_exec_eq_binaryOp fun _ => rfl) fun a b => boolWord_of_iff (auEq_iff a b),
    oneOperand_congr (oneOperand_of_exec_eq_unaryOp fun _ => rfl) fun a => boolWord_of_iff (auEq_zero_iff a)⟩

/-- Settles O50. -/
theorem contextReadInstructions : Obligations.ContextReadInstructions :=
  ⟨pureRead_of_exec_eq_pushResult fun _ => rfl, pureRead_of_exec_eq_pushResult fun _ => rfl,
    pureRead_of_exec_eq_pushResult fun _ => rfl, pureRead_of_exec_eq_pushResult fun _ => rfl,
    pureRead_of_exec_eq_pushResult fun _ => rfl, pureRead_of_exec_eq_pushResult fun _ => rfl,
    pureRead_of_exec_eq_pushResult fun _ => rfl⟩

/-- Settles O51: the 32 bytes never exceed a Word. -/
theorem calldataloadInstruction : Obligations.CalldataloadInstruction := by
  refine fun s => ⟨fun offset i rest hs hi room => ?_, fun offset rest hs hlarge => ?_, fun empty => ?_⟩
  · rw [exec_calldataload, pop_cons hs, toIndex_of_auToU32_ok hi, natOfBytes_bytesFrom]
    exact pushResult_fits room _
  · rw [exec_calldataload, pop_cons hs, toIndex_of_le hlarge, raise_withStack]
  · rw [exec_calldataload, pop_nil empty]

/-- Settles O55: JUMP and a taken JUMPI share `takeJump`, whose three cases exclude each other. -/
theorem jumpInstructions : Obligations.JumpInstructions := by
  intro s
  refine ⟨fun dest d rest hs hd hv => ?_, fun dest d rest hs hd hv => ?_, fun dest rest hs hlarge => ?_,
    fun empty => (exec_jump s).trans (pop_nil empty _), fun dest rest hs => ?_, fun dest cond d rest hs hc hd hv => ?_,
    fun dest cond d rest hs hc hd hv => ?_, fun dest cond rest hs hc hlarge => ?_,
    fun few => popTwo_of_length_lt_two few _, rfl⟩
  · exact (exec_jump_of_cons hs).trans (takeJump_of_valid hd hv)
  · exact (exec_jump_of_cons hs).trans (takeJump_of_invalid hd hv)
  · exact (exec_jump_of_cons hs).trans (takeJump_of_le hlarge)
  · rw [exec_jumpi, popTwo_eq hs, if_neg (by simp [auNe_iff])]
    rfl
  · exact (exec_jumpi_of_ne_zero hs hc).trans (takeJump_of_valid hd hv)
  · exact (exec_jumpi_of_ne_zero hs hc).trans (takeJump_of_invalid hd hv)
  · exact (exec_jumpi_of_ne_zero hs hc).trans (takeJump_of_le hlarge)

/-- Settles O57: the immediate of PUSHn is at most a Word. -/
theorem pushInstructions : Obligations.PushInstructions := by
  refine fun p hp s imm hlen => ⟨fun hpc room => ?_, fun hend => ?_⟩
  · rw [exec_push_of_lt hp (hlen ▸ (push_bounds hp).2) hpc room, natOfBytes_eq_bigEndian, hlen]
  · rw [exec_push hp, pushImmediate_of_length_le hend]

/-- Settles O58: the decoded immediate is what the code has after the opcode, up to `n` bytes. -/
theorem stepAtPushReadsItsImmediateFromCode : Obligations.StepAtPushReadsItsImmediateFromCode := by
  intro s n op following hrun hdrop hpos hle hop
  obtain ⟨mk, hp⟩ := exists_push hpos hle
  obtain rfl : op = BitVec.ofNat 8 (0x5f + n) := by rw [← hop, BitVec.ofNat_toNat, BitVec.setWidth_eq]
  have hlen : s.code.length = s.pc + 1 + following.length := by
    have := congrArg List.length hdrop
    simp only [List.length_drop, List.length_cons] at this
    omega
  rw [step_of_drop hrun hdrop, decodeInstr_push hp]
  refine ⟨fun henough room => ?_, fun hshort => ?_⟩
  · rw [exec_push_of_lt hp ((List.length_take_le _ _).trans hle) (by omega) room, natOfBytes_take henough]
  · rw [exec_push hp, pushImmediate_of_length_le (by omega)]

/-- Settles O59: `stack[n-1]` lies below `n - 1` entries. -/
theorem popAndDupInstructions : Obligations.PopAndDupInstructions := by
  refine ⟨fun s => ⟨fun a rest hs => pop_cons hs _, fun empty => pop_nil empty _⟩, fun p hp s =>
    ⟨fun above v below hs hdepth room => ?_, fun few => ?_⟩⟩
  · have hentry : s.stack[p.1 - 1]? = some v := by simp [hs, ← hdepth]
    rw [exec_dup hp, dupEntry_eq_pushResult hentry]
    exact pushResult_fits room v
  · exact (exec_dup hp s).trans (peek_of_length_le (by omega) _)

/-- Settles O60: the entries between the two exchanged ones keep their places. -/
theorem swapInstructions : Obligations.SwapInstructions := by
  refine fun p hp s => ⟨fun t between v below hs hdepth => ?_, fun few => ?_⟩
  · rw [exec_swap hp, swapEntry, ← hdepth, swapTop_exchanges hs]
    rfl
  · rw [exec_swap hp, swapEntry, swapTop_of_length_le few]

end Sys2Proof.Proofs
end

section
/-! Memory, hashing, logging, code-copy and storage instructions, and the halts (44_memory_ops.md, 46_storage.md, 47_control.md
section 2). -/

namespace Sys2Proof.Machine

open Sys2Proof.Claims

/-! ## Bytes written -/

theorem auBytes32_getElem {w : Word} {i : Nat} (h : i < (auBytes32 w).length) : (auBytes32 w)[i] = wordByte w i := by
  simp [auBytes32_eq_map_wordByte]

theorem lowByte_eq (w : Word) : w.setWidth 8 = BitVec.ofNat 8 (w.toNat % 256) :=
  BitVec.eq_of_toNat_eq (by simp)

theorem bytesFrom_getElem {bs : List Byte} {start n i : Nat} (h : i < (bytesFrom bs start n).length) :
    (bytesFrom bs start n)[i] = if start + i < bs.length then bs.getD (start + i) 0#8 else 0#8 := by
  simp [bytesFrom]

theorem natOfBytes_slice (s : State) (o n : Nat) : natOfBytes (slice s o n) = bigEndian n fun i => s.mem.byte (o + i) := by
  rw [natOfBytes_eq_bigEndian, slice, List.length_map, List.length_range]
  exact bigEndian_congr fun k hk => by simp [hk]

/-! ## The meanings, once their operands are converted -/

variable {s : State}

theorem exec_mload (s : State) : exec .mload s = execMload s := rfl

theorem exec_mstore (s : State) : exec .mstore s = execMstore s := rfl

theorem exec_mstore8 (s : State) : exec .mstore8 s = execMstore8 s := rfl

theorem exec_codecopy (s : State) : exec .codecopy s = execCodecopy s := rfl

theorem exec_mload_eq {offset : Word} {o : Nat} {rest : List Word} (hs : s.stack = offset :: rest)
    (ho : auToU32 offset = .ok o) : exec .mload s =
      cover o 32 (s.withStack rest) fun t => memRead o 32 t fun bs => orRaise (auWord bs) t fun v => pushResult v t := by
  rw [exec_mload, execMload, pop_cons hs, toIndex_of_auToU32_ok ho]

theorem exec_mstore_eq {offset value : Word} {o : Nat} {rest : List Word} (hs : s.stack = offset :: value :: rest)
    (ho : auToU32 offset = .ok o) :
    exec .mstore s = cover o 32 (s.withStack rest) fun t => memWrite o (auBytes32 value) t (advance 1) := by
  rw [exec_mstore, execMstore, popTwo_eq hs, toIndex_of_auToU32_ok ho]

theorem exec_mstore8_eq {offset value : Word} {o : Nat} {rest : List Word} (hs : s.stack = offset :: value :: rest)
    (ho : auToU32 offset = .ok o) :
    exec .mstore8 s = cover o 1 (s.withStack rest) fun t => memWrite o [value.setWidth 8] t (advance 1) := by
  rw [exec_mstore8, execMstore8, popTwo_eq hs, toIndex_of_auToU32_ok ho]

theorem exec_codecopy_eq {dest codeOffset length : Word} {d c n : Nat} {rest : List Word}
    (hs : s.stack = dest :: codeOffset :: length :: rest) (hd : auToU32 dest = .ok d) (hc : auToU32 codeOffset = .ok c)
    (hn : auToU32 length = .ok n) :
    exec .codecopy s = cover d n (s.withStack rest) fun t => memWrite d (bytesFrom t.code c n) t (advance 1) := by
  rw [exec_codecopy, execCodecopy, popThree_eq hs, toIndex_of_auToU32_ok hd, toIndex_of_auToU32_ok hc, toIndex_of_auToU32_ok hn]

theorem exec_codecopy_of_le {dest codeOffset length : Word} {rest : List Word}
    (hs : s.stack = dest :: codeOffset :: length :: rest)
    (h : 2 ^ 32 ≤ dest.toNat ∨ 2 ^ 32 ≤ codeOffset.toNat ∨ 2 ^ 32 ≤ length.toNat) :
    exec .codecopy s = raise .conversionOverflow s := by
  rw [exec_codecopy, execCodecopy, popThree_eq hs]
  refine toIndex_elim (E := (· = raise .conversionOverflow s)) rfl fun hd => ?_
  refine toIndex_elim (E := (· = raise .conversionOverflow s)) rfl fun hc => ?_
  refine toIndex_elim (E := (· = raise .conversionOverflow s)) rfl fun hn => ?_
  omega

theorem exec_suicide (s : State) : exec .suicide s = pop s fun _ t => halt .suicide (setSelfdestructed t) := rfl

/-! ## Storage -/

theorem exec_sload (s : State) : exec .sload s = pop s fun key t => loadKey key t fun v t => pushResult v t := rfl

theorem exec_sstore (s : State) : exec .sstore s =
    popTwo s fun key value t => advance 1 (t.withStorage (t.storage.insert key value)) := rfl

theorem fetchRequest_eq (s : State) (key : Word) : fetchRequest s key =
    { address := s.ctx.recipient, index := key, height := W (s.ctx.height.toNat + (2 ^ 256 - 1)) } := by
  have hone : (W 1).toNat = 1 := W_toNat_of_lt (Nat.one_lt_two_pow (by decide))
  have hheight : auSub s.ctx.height (W 1) = W (s.ctx.height.toNat + (2 ^ 256 - 1)) := by
    rw [auSub_eq_W_mod, hone]
    exact BitVec.eq_of_toNat_eq (by rw [W_toNat, W_toNat, Nat.mod_mod])
  rw [fetchRequest, hheight]

section Sload

variable {key : Word} {rest : List Word} (hs : s.stack = key :: rest)

include hs

theorem exec_sload_of_cons : exec .sload s = loadKey key (s.withStack rest) fun v t => pushResult v t :=
  (exec_sload s).trans (pop_cons hs _)

theorem exec_sload_present {v : Word} (room : roomOnStack s (rest.length + 1)) (hkey : s.storage.find key = some v) :
    exec .sload s = .next { s with stack := v :: rest, pc := s.pc + 1 } := by
  rw [exec_sload_of_cons hs, loadKey_present (s := s.withStack rest) hkey]
  exact pushResult_fits room v

/-- An absent key: the request is issued, and its answer decides. -/
theorem exec_sload_absent (hkey : s.storage.find key = none) : exec .sload s =
    onAnswer (Config.fetchStorage s.freeIndex (fetchRequest s key)) key (afterRequest (s.withStack rest) key)
      fun v t => pushResult v t := by
  rw [exec_sload_of_cons hs, loadKey, show (s.withStack rest).storage.find key = none from hkey]
  rfl

end Sload

theorem onAnswer_found {key : Word} {rest : List Word} (room : roomOnStack s (rest.length + 1)) (r : Word) :
    (onAnswer (.found r) key (afterRequest (s.withStack rest) key) fun v t => pushResult v t) =
      .next { s with
        stack := r :: rest, storage := s.storage.insert key r, pc := s.pc + 1, freeIndex := s.freeIndex + 1
        fetches := s.fetches ++ [fetchRequest s key] } :=
  pushResult_fits (s := (afterRequest (s.withStack rest) key).withStorage (s.storage.insert key r)) room r

end Sys2Proof.Machine

namespace Sys2Proof.Proofs

open Sys2Proof.Machine Sys2Proof.Claims

/-- Settles O44: the 32 bytes read are a Word. -/
theorem mloadInstruction : Obligations.MloadInstruction := by
  refine fun s => ⟨fun offset o rest hs ho room fits => ?_, fun offset rest hs hlarge => ?_, fun empty => ?_⟩
  · have hlen : (slice (s.withStack rest) o 32).length ≤ 32 := by simp [slice]
    rw [exec_mload_eq hs ho, cover_memRead_of_room (s := s.withStack rest) room, orRaise_auWord hlen, natOfBytes_slice]
    exact pushResult_fits fits _
  · rw [exec_mload, execMload, pop_cons hs, toIndex_of_le hlarge, raise_withStack]
  · rw [exec_mload, execMload, pop_nil empty]

/-- Settles O45: the bytes written are the value's. -/
theorem mstoreInstruction : Obligations.MstoreInstruction := by
  refine fun s hwf => ⟨fun offset value o rest hs ho room => ?_, fun offset value rest hs hlarge => ?_, fun few => ?_⟩
  · have hlen : 32 = (auBytes32 value).length := (auBytes32_length value).symm
    obtain ⟨hsize, hbytes, hframe⟩ := covered_write (o := o) hwf hlen
    refine ⟨(covered s o 32).write o (auBytes32 value), ?_, hsize, fun i hi => ?_, hframe⟩
    · exact (exec_mstore_eq hs ho).trans (cover_memWrite_of_room (s := s.withStack rest) hlen room _)
    · rw [hbytes i (hlen ▸ hi), auBytes32_getElem]
  · rw [exec_mstore, execMstore, popTwo_eq hs, toIndex_of_le hlarge, raise_withStack]
  · rw [exec_mstore, execMstore, popTwo_of_length_lt_two few]

/-- Settles O46: one byte is written. -/
theorem mstore8Instruction : Obligations.Mstore8Instruction := by
  refine fun s hwf => ⟨fun offset value o rest hs ho room => ?_, fun offset value rest hs hlarge => ?_, fun few => ?_⟩
  · have hlen : 1 = [value.setWidth 8].length := rfl
    obtain ⟨hsize, hbytes, hframe⟩ := covered_write (o := o) hwf hlen
    refine ⟨(covered s o 1).write o [value.setWidth 8], ?_, hsize, ?_, fun a ha => hframe a (by omega)⟩
    · exact (exec_mstore8_eq hs ho).trans (cover_memWrite_of_room (s := s.withStack rest) hlen room _)
    · exact (hbytes 0 Nat.one_pos).trans (lowByte_eq value)
  · rw [exec_mstore8, execMstore8, popTwo_eq hs, toIndex_of_le hlarge, raise_withStack]
  · rw [exec_mstore8, execMstore8, popTwo_of_length_lt_two few]

/-- Settles O47. -/
theorem sha3Instruction : Obligations.Sha3Instruction := by
  refine fun s => ⟨fun offset size o n rest hs ho hn room fits => ?_, fun offset size rest hs hlarge => ?_, fun few => ?_⟩
  · exact (popRange_of_room hs ho hn room _).trans (pushResult_fits fits _)
  · exact popRange_of_le hs hlarge _
  · exact popRange_of_length_lt_two few _

/-- Settles O48: the topics are popped after the range has been read. -/
theorem logInstructions : Obligations.LogInstructions := by
  refine fun p hp s => ⟨fun offset size topics o n rest hs hlen ho hn room => ?_, fun offset size rest hs hlarge => ?_,
    fun offset size o n rest hs hshort ho hn room => ?_, fun few => ?_⟩ <;> rw [exec_log hp, logRecord]
  · rw [popRange_of_room hs ho hn room, popMany_append rfl hlen]
    rfl
  · exact popRange_of_le hs hlarge _
  · rw [popRange_of_room hs ho hn room, popMany_of_length_lt hshort]
    rfl
  · exact popRange_of_length_lt_two few _

/-- Settles O49: the bytes written are those of the code, zero past its end. -/
theorem codecopyInstruction : Obligations.CodecopyInstruction := by
  refine fun s hwf => ⟨fun dest codeOffset length d c n rest hs hd hc hn room => ?_,
    fun dest codeOffset length rest hs hlarge => exec_codecopy_of_le hs hlarge,
    fun few => popThree_of_length_lt_three few _⟩
  have hlen : n = (bytesFrom s.code c n).length := (bytesFrom_length _ _ _).symm
  obtain ⟨hsize, hbytes, hframe⟩ := covered_write (o := d) hwf hlen
  refine ⟨(covered s d n).write d (bytesFrom s.code c n), ?_, hsize, fun i hi => ?_, hframe⟩
  · exact (exec_codecopy_eq hs hd hc hn).trans (cover_memWrite_of_room (s := s.withStack rest) hlen room _)
  · rw [hbytes i (hlen ▸ hi), bytesFrom_getElem]

/-- Settles O52: each answer of the DataSource has its own outcome. -/
theorem sloadInstruction : Obligations.SloadInstruction := by
  refine fun s => ⟨fun key v rest hs hkey room => exec_sload_present hs room hkey, fun key rest hs hkey room => ?_,
    fun empty => (exec_sload s).trans (pop_nil empty _)⟩
  simp only [exec_sload_absent hs hkey, ← fetchRequest_eq]
  cases Config.fetchStorage s.freeIndex (fetchRequest s key) with
  | found r => exact onAnswer_found room r
  | failure => rfl
  | noAnswer => rfl

/-- Settles O53. -/
theorem sstoreInstruction : Obligations.SstoreInstruction := fun s =>
  ⟨fun key value _ hs => ⟨s.storage.insert key value, (exec_sstore s).trans (popTwo_eq hs _),
      s.storage.find_insert_same key value, s.storage.find_insert_other key value⟩,
    fun few => (exec_sstore s).trans (popTwo_of_length_lt_two few _)⟩

/-- Settles O54: the value fetched is inserted, so the key is present. -/
theorem oneFetchPerKey : Obligations.OneFetchPerKey := by
  intro s key rest hs hkey room
  rw [exec_sload_absent hs hkey]
  cases Config.fetchStorage s.freeIndex (fetchRequest s key) with
  | found r =>
    rw [onAnswer_found room r]
    refine ⟨List.length_append, fun _ => ⟨r, rfl, s.storage.find_insert_same key r, fun u below hu hfind hroom => ?_⟩⟩
    exact exec_sload_present hu hroom (hfind.trans (s.storage.find_insert_same key r))
  | failure => exact ⟨List.length_append, nofun⟩
  | noAnswer => rfl

/-- Settles O56: RETURN and REVERT read their range and halt with it. -/
theorem haltInstructions : Obligations.HaltInstructions := by
  refine fun s => ⟨rfl, fun offset size o n rest hs ho hn room => ⟨?_, ?_⟩,
    fun offset size rest hs hlarge => ⟨?_, ?_⟩, fun few => ⟨?_, ?_⟩, fun beneficiary rest hs => ?_, fun empty => ?_⟩
  · exact popRange_of_room hs ho hn room _
  · exact popRange_of_room hs ho hn room _
  · exact popRange_of_le hs hlarge _
  · exact popRange_of_le hs hlarge _
  · exact popRange_of_length_lt_two few _
  · exact popRange_of_length_lt_two few _
  · exact (exec_suicide s).trans (pop_cons hs _)
  · exact (exec_suicide s).trans (pop_nil empty _)

end Sys2Proof.Proofs
end

section
/-! Beyond a finite capacity (40_dispatch.md R119): the instructions that grow the stack or memory are stuck. -/

namespace Sys2Proof.Machine

open Sys2Proof.Claims

variable {s : State}

/-! ## The stack -/

section FullStack

variable (full : ¬ roomOnStack s (s.stack.length + 1))

include full

theorem exec_read_full : ∀ i ∈ [Instr.address, .origin, .caller, .callvalue, .calldatasize, .pc, .msize],
    exec i s = .fault .stackCapacityExceeded := by
  intro i hi
  fin_cases hi <;> exact pushResult_full full _

theorem exec_push_full {p : Nat × (List Byte → Instr)} (hp : p ∈ pushes) {imm : List Byte} (hlen : imm.length = p.1)
    (hpc : s.pc + p.1 < s.code.length) : exec (p.2 imm) s = .fault .stackCapacityExceeded := by
  rw [exec_push hp, pushImmediate_eq_push hpc (hlen ▸ (push_bounds hp).2)]
  exact if_neg full

theorem exec_dup_full {p : Nat × Instr} (hp : p ∈ dups) (hlen : p.1 ≤ s.stack.length) :
    exec p.2 s = .fault .stackCapacityExceeded := by
  have hpos : 1 ≤ p.1 := (by decide : ∀ p ∈ dups, 1 ≤ p.1) p hp
  rw [exec_dup hp, dupEntry_eq_pushResult (List.getElem?_eq_getElem (by omega))]
  exact pushResult_full full _

end FullStack

/-! ## Memory -/

theorem exec_range {i : Instr} (hi : i ∈ rangeInstrs) : ∃ k, ∀ s, exec i s = popRange s k := by
  fin_cases hi <;> exact ⟨_, fun _ => rfl⟩

theorem exec_range_full {i : Instr} (hi : i ∈ rangeInstrs) {offset size : Word} {rest : List Word} {o n : Nat}
    (hs : s.stack = offset :: size :: rest) (ho : auToU32 offset = .ok o) (hn : auToU32 size = .ok n)
    (full : ¬ roomInMemory s o n) : exec i s = .fault .memCapacityExceeded := by
  obtain ⟨k, hk⟩ := exec_range hi
  exact (hk s).trans (popRange_full hs ho hn full k)

end Sys2Proof.Machine

namespace Sys2Proof.Proofs

open Sys2Proof.Machine

/-- Settles O12: the push, or the cover, is the first statement that can fail once the operands are there. -/
theorem beyondCapacityTheMachineIsStuck : Obligations.BeyondCapacityTheMachineIsStuck := by
  intro s
  refine ⟨fun full => ⟨exec_read_full full, fun p hp imm hlen hpc => exec_push_full full hp hlen hpc,
      fun p hp hlen => exec_dup_full full hp hlen⟩,
    fun offset rest o hs ho full => ?_, fun offset value rest o hs ho => ⟨fun full => ?_, fun full => ?_⟩,
    fun offset size rest o n hs ho hn full i hi => exec_range_full hi hs ho hn full,
    fun dest codeOffset length rest d c n hs hd hc hn full => ?_⟩
  · exact (exec_mload_eq hs ho).trans (cover_full (s := s.withStack rest) full _)
  · exact (exec_mstore_eq hs ho).trans (cover_full (s := s.withStack rest) full _)
  · exact (exec_mstore8_eq hs ho).trans (cover_full (s := s.withStack rest) full _)
  · exact (exec_codecopy_eq hs hd hc hn).trans (cover_full (s := s.withStack rest) full _)

end Sys2Proof.Proofs
end
